-- ==== Sys2Proof/Word.lean ====
section
/-! DEFINITION. The machine's words (spec/00_scope.md R13): byte 8 bits, word 16, longword 32,
and the 24-bit address. -/

namespace Sys2Proof

/-- 8 bits (R13). -/
abbrev Byte := BitVec 8

/-- 16 bits (R13). -/
abbrev Word := BitVec 16

/-- 32 bits (R13). -/
abbrev Long := BitVec 32

/-- An address as the CPU computes it: 24 bits, masked to the mode's width when emitted (R9). -/
abbrev Addr := BitVec 24

end Sys2Proof
end

