-- ==== Sys2Proof/Syntax.lean ====
section
/-! DEFINITION. The instructions as syntax: one constructor per row of spec/opcode_table.json, in the
table's order but for the rows without an operand, which stand last; the d:8 and the d:16 row of Bcc and of BSR
are one constructor with two displacement sizes, and TRAPA is one constructor for each number (log 35). Operands stand in the order of the assembler format, source first (R110). -/

namespace Sys2Proof

/-- A 3-bit register number (R88): ER0 to ER7. -/
inductive RegNum where
  | r0 | r1 | r2 | r3 | r4 | r5 | r6 | r7
  deriving DecidableEq, Repr

/-- An 8-bit register operand (R86): RnL when `low`, else RnH. -/
structure Reg8 where
  low : Bool
  n : RegNum
  deriving DecidableEq, Repr

/-- A 16-bit register operand (R87): En when `ext`, else Rn. -/
structure Reg16 where
  ext : Bool
  n : RegNum
  deriving DecidableEq, Repr

/-- The displacement of Bcc and BSR, in one of its two sizes (R101): the d:8 and the d:16 row of the table. -/
inductive Disp where
  | d8 (d : BitVec 8)
  | d16 (d : BitVec 16)
  deriving DecidableEq, Repr

/-- The instructions. `imm` is an immediate (R89, R90), `disp` a displacement (R96, R101), `aa` an
absolute address (R99, R102); `rs`, `rd`, `rn`, `ers`, `erd`, `ern` are the register fields. -/
inductive Instr where
  -- Data transfer (spec/40_data_transfer.md)
  /-- MOV.B Rs,Rd (R122). -/
  | movBRR (rs : Reg8) (rd : Reg8)
  /-- MOV.W Rs,Rd (R123). -/
  | movWRR (rs : Reg16) (rd : Reg16)
  /-- MOV.L ERs,ERd (R124). -/
  | movLRR (ers : RegNum) (erd : RegNum)
  /-- MOV.B #xx:8,Rd (R125). -/
  | movBImm (imm : BitVec 8) (rd : Reg8)
  /-- MOV.W #xx:16,Rd (R126). -/
  | movWImm (imm : BitVec 16) (rd : Reg16)
  /-- MOV.L #xx:32,ERd (R127). -/
  | movLImm (imm : BitVec 32) (erd : RegNum)
  /-- MOV.B @ERs,Rd (R128). -/
  | movBLdInd (ers : RegNum) (rd : Reg8)
  /-- MOV.W @ERs,Rd (R128). -/
  | movWLdInd (ers : RegNum) (rd : Reg16)
  /-- MOV.L @ERs,ERd (R128). -/
  | movLLdInd (ers : RegNum) (erd : RegNum)
  /-- MOV.B @(d:16,ERs),Rd (R129). -/
  | movBLdD16 (disp : BitVec 16) (ers : RegNum) (rd : Reg8)
  /-- MOV.W @(d:16,ERs),Rd (R129). -/
  | movWLdD16 (disp : BitVec 16) (ers : RegNum) (rd : Reg16)
  /-- MOV.L @(d:16,ERs),ERd (R129). -/
  | movLLdD16 (disp : BitVec 16) (ers : RegNum) (erd : RegNum)
  /-- MOV.B @(d:24,ERs),Rd (R130). -/
  | movBLdD24 (disp : BitVec 24) (ers : RegNum) (rd : Reg8)
  /-- MOV.W @(d:24,ERs),Rd (R130). -/
  | movWLdD24 (disp : BitVec 24) (ers : RegNum) (rd : Reg16)
  /-- MOV.L @(d:24,ERs),ERd (R130). -/
  | movLLdD24 (disp : BitVec 24) (ers : RegNum) (erd : RegNum)
  /-- MOV.B @ERs+,Rd (R131). -/
  | movBLdInc (ers : RegNum) (rd : Reg8)
  /-- MOV.W @ERs+,Rd (R131). -/
  | movWLdInc (ers : RegNum) (rd : Reg16)
  /-- MOV.L @ERs+,ERd (R131). -/
  | movLLdInc (ers : RegNum) (erd : RegNum)
  /-- MOV.B @aa:8,Rd (R132). -/
  | movBLdA8 (aa : BitVec 8) (rd : Reg8)
  /-- MOV.B @aa:16,Rd (R133). -/
  | movBLdA16 (aa : BitVec 16) (rd : Reg8)
  /-- MOV.W @aa:16,Rd (R133). -/
  | movWLdA16 (aa : BitVec 16) (rd : Reg16)
  /-- MOV.L @aa:16,ERd (R133). -/
  | movLLdA16 (aa : BitVec 16) (erd : RegNum)
  /-- MOV.B @aa:24,Rd (R134). -/
  | movBLdA24 (aa : BitVec 24) (rd : Reg8)
  /-- MOV.W @aa:24,Rd (R134). -/
  | movWLdA24 (aa : BitVec 24) (rd : Reg16)
  /-- MOV.L @aa:24,ERd (R134). -/
  | movLLdA24 (aa : BitVec 24) (erd : RegNum)
  /-- MOV.B Rs,@ERd (R135). -/
  | movBStInd (rs : Reg8) (erd : RegNum)
  /-- MOV.W Rs,@ERd (R135). -/
  | movWStInd (rs : Reg16) (erd : RegNum)
  /-- MOV.L ERs,@ERd (R135). -/
  | movLStInd (ers : RegNum) (erd : RegNum)
  /-- MOV.B Rs,@(d:16,ERd) (R136). -/
  | movBStD16 (rs : Reg8) (disp : BitVec 16) (erd : RegNum)
  /-- MOV.W Rs,@(d:16,ERd) (R136). -/
  | movWStD16 (rs : Reg16) (disp : BitVec 16) (erd : RegNum)
  /-- MOV.L ERs,@(d:16,ERd) (R136). -/
  | movLStD16 (ers : RegNum) (disp : BitVec 16) (erd : RegNum)
  /-- MOV.B Rs,@(d:24,ERd) (R137). -/
  | movBStD24 (rs : Reg8) (disp : BitVec 24) (erd : RegNum)
  /-- MOV.W Rs,@(d:24,ERd) (R137). -/
  | movWStD24 (rs : Reg16) (disp : BitVec 24) (erd : RegNum)
  /-- MOV.L ERs,@(d:24,ERd) (R137). -/
  | movLStD24 (ers : RegNum) (disp : BitVec 24) (erd : RegNum)
  /-- MOV.B Rs,@-ERd (R138). -/
  | movBStDec (rs : Reg8) (erd : RegNum)
  /-- MOV.W Rs,@-ERd (R138). -/
  | movWStDec (rs : Reg16) (erd : RegNum)
  /-- MOV.L ERs,@-ERd (R138). -/
  | movLStDec (ers : RegNum) (erd : RegNum)
  /-- MOV.B Rs,@aa:8 (R139). -/
  | movBStA8 (rs : Reg8) (aa : BitVec 8)
  /-- MOV.B Rs,@aa:16 (R140). -/
  | movBStA16 (rs : Reg8) (aa : BitVec 16)
  /-- MOV.W Rs,@aa:16 (R140). -/
  | movWStA16 (rs : Reg16) (aa : BitVec 16)
  /-- MOV.L ERs,@aa:16 (R140). -/
  | movLStA16 (ers : RegNum) (aa : BitVec 16)
  /-- MOV.B Rs,@aa:24 (R141). -/
  | movBStA24 (rs : Reg8) (aa : BitVec 24)
  /-- MOV.W Rs,@aa:24 (R141). -/
  | movWStA24 (rs : Reg16) (aa : BitVec 24)
  /-- MOV.L ERs,@aa:24 (R141). -/
  | movLStA24 (ers : RegNum) (aa : BitVec 24)
  /-- MOVFPE @aa:16,Rd (R148). -/
  | movfpe (aa : BitVec 16) (rd : Reg8)
  /-- MOVTPE Rs,@aa:16 (R149). -/
  | movtpe (rs : Reg8) (aa : BitVec 16)
  /-- POP.W Rn (R150). -/
  | popW (rn : Reg16)
  /-- POP.L ERn (R151). -/
  | popL (ern : RegNum)
  /-- PUSH.W Rn (R152). -/
  | pushW (rn : Reg16)
  /-- PUSH.L ERn (R153). -/
  | pushL (ern : RegNum)
  -- Arithmetic (spec/41_arithmetic.md)
  /-- ADD.B #xx:8,Rd (R161). -/
  | addBImm (imm : BitVec 8) (rd : Reg8)
  /-- ADD.B Rs,Rd (R161). -/
  | addBReg (rs : Reg8) (rd : Reg8)
  /-- ADD.W #xx:16,Rd (R162). -/
  | addWImm (imm : BitVec 16) (rd : Reg16)
  /-- ADD.W Rs,Rd (R162). -/
  | addWReg (rs : Reg16) (rd : Reg16)
  /-- ADD.L #xx:32,ERd (R163). -/
  | addLImm (imm : BitVec 32) (erd : RegNum)
  /-- ADD.L ERs,ERd (R163). -/
  | addLReg (ers : RegNum) (erd : RegNum)
  /-- SUB.B Rs,Rd (R164). -/
  | subBReg (rs : Reg8) (rd : Reg8)
  /-- SUB.W #xx:16,Rd (R165). -/
  | subWImm (imm : BitVec 16) (rd : Reg16)
  /-- SUB.W Rs,Rd (R165). -/
  | subWReg (rs : Reg16) (rd : Reg16)
  /-- SUB.L #xx:32,ERd (R166). -/
  | subLImm (imm : BitVec 32) (erd : RegNum)
  /-- SUB.L ERs,ERd (R166). -/
  | subLReg (ers : RegNum) (erd : RegNum)
  /-- ADDX #xx:8,Rd (R167). -/
  | addxImm (imm : BitVec 8) (rd : Reg8)
  /-- ADDX Rs,Rd (R167). -/
  | addxReg (rs : Reg8) (rd : Reg8)
  /-- SUBX #xx:8,Rd (R168). -/
  | subxImm (imm : BitVec 8) (rd : Reg8)
  /-- SUBX Rs,Rd (R168). -/
  | subxReg (rs : Reg8) (rd : Reg8)
  /-- INC.B Rd (R169). -/
  | incB (rd : Reg8)
  /-- INC.W #1,Rd (R170). -/
  | incW1 (rd : Reg16)
  /-- INC.W #2,Rd (R170). -/
  | incW2 (rd : Reg16)
  /-- INC.L #1,ERd (R171). -/
  | incL1 (erd : RegNum)
  /-- INC.L #2,ERd (R171). -/
  | incL2 (erd : RegNum)
  /-- DEC.B Rd (R172). -/
  | decB (rd : Reg8)
  /-- DEC.W #1,Rd (R173). -/
  | decW1 (rd : Reg16)
  /-- DEC.W #2,Rd (R173). -/
  | decW2 (rd : Reg16)
  /-- DEC.L #1,ERd (R174). -/
  | decL1 (erd : RegNum)
  /-- DEC.L #2,ERd (R174). -/
  | decL2 (erd : RegNum)
  /-- ADDS #1,ERd (R175). -/
  | adds1 (erd : RegNum)
  /-- ADDS #2,ERd (R175). -/
  | adds2 (erd : RegNum)
  /-- ADDS #4,ERd (R175). -/
  | adds4 (erd : RegNum)
  /-- SUBS #1,ERd (R176). -/
  | subs1 (erd : RegNum)
  /-- SUBS #2,ERd (R176). -/
  | subs2 (erd : RegNum)
  /-- SUBS #4,ERd (R176). -/
  | subs4 (erd : RegNum)
  /-- DAA Rd (R177). -/
  | daa (rd : Reg8)
  /-- DAS Rd (R178). -/
  | das (rd : Reg8)
  /-- MULXU.B Rs,Rd (R179). -/
  | mulxuB (rs : Reg8) (rd : Reg16)
  /-- MULXU.W Rs,ERd (R180). -/
  | mulxuW (rs : Reg16) (erd : RegNum)
  /-- MULXS.B Rs,Rd (R181). -/
  | mulxsB (rs : Reg8) (rd : Reg16)
  /-- MULXS.W Rs,ERd (R182). -/
  | mulxsW (rs : Reg16) (erd : RegNum)
  /-- DIVXU.B Rs,Rd (R183). -/
  | divxuB (rs : Reg8) (rd : Reg16)
  /-- DIVXU.W Rs,ERd (R184). -/
  | divxuW (rs : Reg16) (erd : RegNum)
  /-- DIVXS.B Rs,Rd (R185). -/
  | divxsB (rs : Reg8) (rd : Reg16)
  /-- DIVXS.W Rs,ERd (R186). -/
  | divxsW (rs : Reg16) (erd : RegNum)
  /-- CMP.B #xx:8,Rd (R188). -/
  | cmpBImm (imm : BitVec 8) (rd : Reg8)
  /-- CMP.B Rs,Rd (R188). -/
  | cmpBReg (rs : Reg8) (rd : Reg8)
  /-- CMP.W #xx:16,Rd (R189). -/
  | cmpWImm (imm : BitVec 16) (rd : Reg16)
  /-- CMP.W Rs,Rd (R189). -/
  | cmpWReg (rs : Reg16) (rd : Reg16)
  /-- CMP.L #xx:32,ERd (R190). -/
  | cmpLImm (imm : BitVec 32) (erd : RegNum)
  /-- CMP.L ERs,ERd (R190). -/
  | cmpLReg (ers : RegNum) (erd : RegNum)
  /-- NEG.B Rd (R191). -/
  | negB (rd : Reg8)
  /-- NEG.W Rd (R192). -/
  | negW (rd : Reg16)
  /-- NEG.L ERd (R193). -/
  | negL (erd : RegNum)
  /-- EXTS.W Rd (R194). -/
  | extsW (rd : Reg16)
  /-- EXTS.L ERd (R195). -/
  | extsL (erd : RegNum)
  /-- EXTU.W Rd (R196). -/
  | extuW (rd : Reg16)
  /-- EXTU.L ERd (R197). -/
  | extuL (erd : RegNum)
  -- Logic (spec/42_logic.md)
  /-- AND.B #xx:8,Rd (R221). -/
  | andBImm (imm : BitVec 8) (rd : Reg8)
  /-- AND.B Rs,Rd (R221). -/
  | andBReg (rs : Reg8) (rd : Reg8)
  /-- AND.W #xx:16,Rd (R222). -/
  | andWImm (imm : BitVec 16) (rd : Reg16)
  /-- AND.W Rs,Rd (R222). -/
  | andWReg (rs : Reg16) (rd : Reg16)
  /-- AND.L #xx:32,ERd (R223). -/
  | andLImm (imm : BitVec 32) (erd : RegNum)
  /-- AND.L ERs,ERd (R223). -/
  | andLReg (ers : RegNum) (erd : RegNum)
  /-- OR.B #xx:8,Rd (R224). -/
  | orBImm (imm : BitVec 8) (rd : Reg8)
  /-- OR.B Rs,Rd (R224). -/
  | orBReg (rs : Reg8) (rd : Reg8)
  /-- OR.W #xx:16,Rd (R225). -/
  | orWImm (imm : BitVec 16) (rd : Reg16)
  /-- OR.W Rs,Rd (R225). -/
  | orWReg (rs : Reg16) (rd : Reg16)
  /-- OR.L #xx:32,ERd (R226). -/
  | orLImm (imm : BitVec 32) (erd : RegNum)
  /-- OR.L ERs,ERd (R226). -/
  | orLReg (ers : RegNum) (erd : RegNum)
  /-- XOR.B #xx:8,Rd (R227). -/
  | xorBImm (imm : BitVec 8) (rd : Reg8)
  /-- XOR.B Rs,Rd (R227). -/
  | xorBReg (rs : Reg8) (rd : Reg8)
  /-- XOR.W #xx:16,Rd (R228). -/
  | xorWImm (imm : BitVec 16) (rd : Reg16)
  /-- XOR.W Rs,Rd (R228). -/
  | xorWReg (rs : Reg16) (rd : Reg16)
  /-- XOR.L #xx:32,ERd (R229). -/
  | xorLImm (imm : BitVec 32) (erd : RegNum)
  /-- XOR.L ERs,ERd (R229). -/
  | xorLReg (ers : RegNum) (erd : RegNum)
  /-- NOT.B Rd (R230). -/
  | notB (rd : Reg8)
  /-- NOT.W Rd (R231). -/
  | notW (rd : Reg16)
  /-- NOT.L ERd (R232). -/
  | notL (erd : RegNum)
  -- Shift and rotate (spec/43_shift.md)
  /-- SHAL.B Rd (R241). -/
  | shalB (rd : Reg8)
  /-- SHAL.W Rd (R241). -/
  | shalW (rd : Reg16)
  /-- SHAL.L ERd (R241). -/
  | shalL (erd : RegNum)
  /-- SHAR.B Rd (R242). -/
  | sharB (rd : Reg8)
  /-- SHAR.W Rd (R242). -/
  | sharW (rd : Reg16)
  /-- SHAR.L ERd (R242). -/
  | sharL (erd : RegNum)
  /-- SHLL.B Rd (R243). -/
  | shllB (rd : Reg8)
  /-- SHLL.W Rd (R243). -/
  | shllW (rd : Reg16)
  /-- SHLL.L ERd (R243). -/
  | shllL (erd : RegNum)
  /-- SHLR.B Rd (R244). -/
  | shlrB (rd : Reg8)
  /-- SHLR.W Rd (R244). -/
  | shlrW (rd : Reg16)
  /-- SHLR.L ERd (R244). -/
  | shlrL (erd : RegNum)
  /-- ROTL.B Rd (R245). -/
  | rotlB (rd : Reg8)
  /-- ROTL.W Rd (R245). -/
  | rotlW (rd : Reg16)
  /-- ROTL.L ERd (R245). -/
  | rotlL (erd : RegNum)
  /-- ROTR.B Rd (R246). -/
  | rotrB (rd : Reg8)
  /-- ROTR.W Rd (R246). -/
  | rotrW (rd : Reg16)
  /-- ROTR.L ERd (R246). -/
  | rotrL (erd : RegNum)
  /-- ROTXL.B Rd (R247). -/
  | rotxlB (rd : Reg8)
  /-- ROTXL.W Rd (R247). -/
  | rotxlW (rd : Reg16)
  /-- ROTXL.L ERd (R247). -/
  | rotxlL (erd : RegNum)
  /-- ROTXR.B Rd (R248). -/
  | rotxrB (rd : Reg8)
  /-- ROTXR.W Rd (R248). -/
  | rotxrW (rd : Reg16)
  /-- ROTXR.L ERd (R248). -/
  | rotxrL (erd : RegNum)
  -- Bit manipulation (spec/44_bit_manipulation.md)
  /-- BSET #xx:3,Rd (R263). -/
  | bsetImmReg (imm : BitVec 3) (rd : Reg8)
  /-- BSET #xx:3,@ERd (R263). -/
  | bsetImmInd (imm : BitVec 3) (erd : RegNum)
  /-- BSET #xx:3,@aa:8 (R263). -/
  | bsetImmAbs (imm : BitVec 3) (aa : BitVec 8)
  /-- BSET Rn,Rd (R263). -/
  | bsetRegReg (rn : Reg8) (rd : Reg8)
  /-- BSET Rn,@ERd (R263). -/
  | bsetRegInd (rn : Reg8) (erd : RegNum)
  /-- BSET Rn,@aa:8 (R263). -/
  | bsetRegAbs (rn : Reg8) (aa : BitVec 8)
  /-- BCLR #xx:3,Rd (R264). -/
  | bclrImmReg (imm : BitVec 3) (rd : Reg8)
  /-- BCLR #xx:3,@ERd (R264). -/
  | bclrImmInd (imm : BitVec 3) (erd : RegNum)
  /-- BCLR #xx:3,@aa:8 (R264). -/
  | bclrImmAbs (imm : BitVec 3) (aa : BitVec 8)
  /-- BCLR Rn,Rd (R264). -/
  | bclrRegReg (rn : Reg8) (rd : Reg8)
  /-- BCLR Rn,@ERd (R264). -/
  | bclrRegInd (rn : Reg8) (erd : RegNum)
  /-- BCLR Rn,@aa:8 (R264). -/
  | bclrRegAbs (rn : Reg8) (aa : BitVec 8)
  /-- BNOT #xx:3,Rd (R265). -/
  | bnotImmReg (imm : BitVec 3) (rd : Reg8)
  /-- BNOT #xx:3,@ERd (R265). -/
  | bnotImmInd (imm : BitVec 3) (erd : RegNum)
  /-- BNOT #xx:3,@aa:8 (R265). -/
  | bnotImmAbs (imm : BitVec 3) (aa : BitVec 8)
  /-- BNOT Rn,Rd (R265). -/
  | bnotRegReg (rn : Reg8) (rd : Reg8)
  /-- BNOT Rn,@ERd (R265). -/
  | bnotRegInd (rn : Reg8) (erd : RegNum)
  /-- BNOT Rn,@aa:8 (R265). -/
  | bnotRegAbs (rn : Reg8) (aa : BitVec 8)
  /-- BTST #xx:3,Rd (R266). -/
  | btstImmReg (imm : BitVec 3) (rd : Reg8)
  /-- BTST #xx:3,@ERd (R266). -/
  | btstImmInd (imm : BitVec 3) (erd : RegNum)
  /-- BTST #xx:3,@aa:8 (R266). -/
  | btstImmAbs (imm : BitVec 3) (aa : BitVec 8)
  /-- BTST Rn,Rd (R266). -/
  | btstRegReg (rn : Reg8) (rd : Reg8)
  /-- BTST Rn,@ERd (R266). -/
  | btstRegInd (rn : Reg8) (erd : RegNum)
  /-- BTST Rn,@aa:8 (R266). -/
  | btstRegAbs (rn : Reg8) (aa : BitVec 8)
  /-- BAND #xx:3,Rd (R267). -/
  | bandReg (imm : BitVec 3) (rd : Reg8)
  /-- BAND #xx:3,@ERd (R267). -/
  | bandInd (imm : BitVec 3) (erd : RegNum)
  /-- BAND #xx:3,@aa:8 (R267). -/
  | bandAbs (imm : BitVec 3) (aa : BitVec 8)
  /-- BIAND #xx:3,Rd (R268). -/
  | biandReg (imm : BitVec 3) (rd : Reg8)
  /-- BIAND #xx:3,@ERd (R268). -/
  | biandInd (imm : BitVec 3) (erd : RegNum)
  /-- BIAND #xx:3,@aa:8 (R268). -/
  | biandAbs (imm : BitVec 3) (aa : BitVec 8)
  /-- BOR #xx:3,Rd (R269). -/
  | borReg (imm : BitVec 3) (rd : Reg8)
  /-- BOR #xx:3,@ERd (R269). -/
  | borInd (imm : BitVec 3) (erd : RegNum)
  /-- BOR #xx:3,@aa:8 (R269). -/
  | borAbs (imm : BitVec 3) (aa : BitVec 8)
  /-- BIOR #xx:3,Rd (R270). -/
  | biorReg (imm : BitVec 3) (rd : Reg8)
  /-- BIOR #xx:3,@ERd (R270). -/
  | biorInd (imm : BitVec 3) (erd : RegNum)
  /-- BIOR #xx:3,@aa:8 (R270). -/
  | biorAbs (imm : BitVec 3) (aa : BitVec 8)
  /-- BXOR #xx:3,Rd (R271). -/
  | bxorReg (imm : BitVec 3) (rd : Reg8)
  /-- BXOR #xx:3,@ERd (R271). -/
  | bxorInd (imm : BitVec 3) (erd : RegNum)
  /-- BXOR #xx:3,@aa:8 (R271). -/
  | bxorAbs (imm : BitVec 3) (aa : BitVec 8)
  /-- BIXOR #xx:3,Rd (R272). -/
  | bixorReg (imm : BitVec 3) (rd : Reg8)
  /-- BIXOR #xx:3,@ERd (R272). -/
  | bixorInd (imm : BitVec 3) (erd : RegNum)
  /-- BIXOR #xx:3,@aa:8 (R272). -/
  | bixorAbs (imm : BitVec 3) (aa : BitVec 8)
  /-- BLD #xx:3,Rd (R273). -/
  | bldReg (imm : BitVec 3) (rd : Reg8)
  /-- BLD #xx:3,@ERd (R273). -/
  | bldInd (imm : BitVec 3) (erd : RegNum)
  /-- BLD #xx:3,@aa:8 (R273). -/
  | bldAbs (imm : BitVec 3) (aa : BitVec 8)
  /-- BILD #xx:3,Rd (R274). -/
  | bildReg (imm : BitVec 3) (rd : Reg8)
  /-- BILD #xx:3,@ERd (R274). -/
  | bildInd (imm : BitVec 3) (erd : RegNum)
  /-- BILD #xx:3,@aa:8 (R274). -/
  | bildAbs (imm : BitVec 3) (aa : BitVec 8)
  /-- BST #xx:3,Rd (R275). -/
  | bstReg (imm : BitVec 3) (rd : Reg8)
  /-- BST #xx:3,@ERd (R275). -/
  | bstInd (imm : BitVec 3) (erd : RegNum)
  /-- BST #xx:3,@aa:8 (R275). -/
  | bstAbs (imm : BitVec 3) (aa : BitVec 8)
  /-- BIST #xx:3,Rd (R276). -/
  | bistReg (imm : BitVec 3) (rd : Reg8)
  /-- BIST #xx:3,@ERd (R276). -/
  | bistInd (imm : BitVec 3) (erd : RegNum)
  /-- BIST #xx:3,@aa:8 (R276). -/
  | bistAbs (imm : BitVec 3) (aa : BitVec 8)
  -- Branch (spec/45_branch.md)
  /-- BRA d:8 or d:16 (R290). -/
  | bra (disp : Disp)
  /-- BRN d:8 or d:16 (R290). -/
  | brn (disp : Disp)
  /-- BHI d:8 or d:16 (R290). -/
  | bhi (disp : Disp)
  /-- BLS d:8 or d:16 (R290). -/
  | bls (disp : Disp)
  /-- BCC d:8 or d:16 (R290). -/
  | bcc (disp : Disp)
  /-- BCS d:8 or d:16 (R290). -/
  | bcs (disp : Disp)
  /-- BNE d:8 or d:16 (R290). -/
  | bne (disp : Disp)
  /-- BEQ d:8 or d:16 (R290). -/
  | beq (disp : Disp)
  /-- BVC d:8 or d:16 (R290). -/
  | bvc (disp : Disp)
  /-- BVS d:8 or d:16 (R290). -/
  | bvs (disp : Disp)
  /-- BPL d:8 or d:16 (R290). -/
  | bpl (disp : Disp)
  /-- BMI d:8 or d:16 (R290). -/
  | bmi (disp : Disp)
  /-- BGE d:8 or d:16 (R290). -/
  | bge (disp : Disp)
  /-- BLT d:8 or d:16 (R290). -/
  | blt (disp : Disp)
  /-- BGT d:8 or d:16 (R290). -/
  | bgt (disp : Disp)
  /-- BLE d:8 or d:16 (R290). -/
  | ble (disp : Disp)
  /-- JMP @ERn (R292). -/
  | jmpInd (ern : RegNum)
  /-- JMP @aa:24 (R293). -/
  | jmpAbs (aa : BitVec 24)
  /-- JMP @@aa:8 (R294). -/
  | jmpMem (aa : BitVec 8)
  /-- BSR d:8 or d:16 (R296). -/
  | bsr (disp : Disp)
  /-- JSR @ERn (R297). -/
  | jsrInd (ern : RegNum)
  /-- JSR @aa:24 (R298). -/
  | jsrAbs (aa : BitVec 24)
  /-- JSR @@aa:8 (R299). -/
  | jsrMem (aa : BitVec 8)
  -- System control (spec/46_system_control.md)
  /-- LDC.B #xx:8,CCR (R314). -/
  | ldcBImm (imm : BitVec 8)
  /-- LDC.B Rs,CCR (R315). -/
  | ldcBReg (rs : Reg8)
  /-- LDC.W @ERs,CCR (R316). -/
  | ldcWInd (ers : RegNum)
  /-- LDC.W @(d:16,ERs),CCR (R316). -/
  | ldcWD16 (disp : BitVec 16) (ers : RegNum)
  /-- LDC.W @(d:24,ERs),CCR (R316). -/
  | ldcWD24 (disp : BitVec 24) (ers : RegNum)
  /-- LDC.W @ERs+,CCR (R316). -/
  | ldcWInc (ers : RegNum)
  /-- LDC.W @aa:16,CCR (R316). -/
  | ldcWA16 (aa : BitVec 16)
  /-- LDC.W @aa:24,CCR (R316). -/
  | ldcWA24 (aa : BitVec 24)
  /-- STC.B CCR,Rd (R317). -/
  | stcBReg (rd : Reg8)
  /-- STC.W CCR,@ERd (R318). -/
  | stcWInd (erd : RegNum)
  /-- STC.W CCR,@(d:16,ERd) (R318). -/
  | stcWD16 (disp : BitVec 16) (erd : RegNum)
  /-- STC.W CCR,@(d:24,ERd) (R318). -/
  | stcWD24 (disp : BitVec 24) (erd : RegNum)
  /-- STC.W CCR,@-ERd (R318). -/
  | stcWDec (erd : RegNum)
  /-- STC.W CCR,@aa:16 (R318). -/
  | stcWA16 (aa : BitVec 16)
  /-- STC.W CCR,@aa:24 (R318). -/
  | stcWA24 (aa : BitVec 24)
  /-- ANDC #xx:8,CCR (R319). -/
  | andc (imm : BitVec 8)
  /-- ORC #xx:8,CCR (R320). -/
  | orc (imm : BitVec 8)
  /-- XORC #xx:8,CCR (R321). -/
  | xorc (imm : BitVec 8)
  -- Without an operand
  /-- RTS (R300). -/
  | rts
  /-- RTE (R311). -/
  | rte
  /-- TRAPA #0 (R312). -/
  | trapa0
  /-- TRAPA #1 (R312). -/
  | trapa1
  /-- TRAPA #2 (R312). -/
  | trapa2
  /-- TRAPA #3 (R312). -/
  | trapa3
  /-- SLEEP (R313). -/
  | sleep
  /-- NOP (R322). -/
  | nop
  /-- EEPMOV.B (R341). -/
  | eepmovB
  /-- EEPMOV.W (R342). -/
  | eepmovW
  deriving DecidableEq, Repr

end Sys2Proof
end

