-- ==== Sys2Proof/Decode.lean ====
section
/-! DEFINITION. The decoder, from the operation code maps of spec/30_encoding.md (R104 to R107), the encoder, from
the formats of the instruction rules, and the numbering of an instruction's bits in spec/opcode_table.json. -/

namespace Sys2Proof

/-! ## Nibbles and fields -/

/-- Four bits of an operation code: the maps are written in nibbles (R80). -/
inductive Nibble where
  | x0 | x1 | x2 | x3 | x4 | x5 | x6 | x7 | x8 | x9 | xA | xB | xC | xD | xE | xF
  deriving DecidableEq, Repr

/-- The nibble of a 4-bit value. -/
def Nibble.ofBits (b : BitVec 4) : Nibble :=
  match b.toNat with
  | 0 => .x0
  | 1 => .x1
  | 2 => .x2
  | 3 => .x3
  | 4 => .x4
  | 5 => .x5
  | 6 => .x6
  | 7 => .x7
  | 8 => .x8
  | 9 => .x9
  | 10 => .xA
  | 11 => .xB
  | 12 => .xC
  | 13 => .xD
  | 14 => .xE
  | _ => .xF

/-- The 4-bit value of a nibble. -/
def Nibble.bits : Nibble → BitVec 4
  | .x0 => 0#4
  | .x1 => 1#4
  | .x2 => 2#4
  | .x3 => 3#4
  | .x4 => 4#4
  | .x5 => 5#4
  | .x6 => 6#4
  | .x7 => 7#4
  | .x8 => 8#4
  | .x9 => 9#4
  | .xA => 10#4
  | .xB => 11#4
  | .xC => 12#4
  | .xD => 13#4
  | .xE => 14#4
  | .xF => 15#4

/-- The high nibble of a byte. -/
def hiNib (b : Byte) : Nibble := .ofBits (b.extractLsb' 4 4)

/-- The low nibble of a byte. -/
def loNib (b : Byte) : Nibble := .ofBits (b.extractLsb' 0 4)

/-- The byte of two nibbles. -/
def nibs (h l : Nibble) : Byte := h.bits ++ l.bits

/-- Bit 3 of a nibble and the register number in bits 2..0 (R86 to R88). -/
def Nibble.reg : Nibble → Bool × RegNum
  | .x0 => (false, .r0)
  | .x1 => (false, .r1)
  | .x2 => (false, .r2)
  | .x3 => (false, .r3)
  | .x4 => (false, .r4)
  | .x5 => (false, .r5)
  | .x6 => (false, .r6)
  | .x7 => (false, .r7)
  | .x8 => (true, .r0)
  | .x9 => (true, .r1)
  | .xA => (true, .r2)
  | .xB => (true, .r3)
  | .xC => (true, .r4)
  | .xD => (true, .r5)
  | .xE => (true, .r6)
  | .xF => (true, .r7)

/-- The nibble with the given bit 3 and register number: `0erd`, `1ers` of the formats (R17). -/
def regNib : Bool → RegNum → Nibble
  | false, .r0 => .x0
  | false, .r1 => .x1
  | false, .r2 => .x2
  | false, .r3 => .x3
  | false, .r4 => .x4
  | false, .r5 => .x5
  | false, .r6 => .x6
  | false, .r7 => .x7
  | true, .r0 => .x8
  | true, .r1 => .x9
  | true, .r2 => .xA
  | true, .r3 => .xB
  | true, .r4 => .xC
  | true, .r5 => .xD
  | true, .r6 => .xE
  | true, .r7 => .xF

/-- Bit 3 of a nibble and the 3-bit number in bits 2..0: `bIMM3` (R82). -/
def Nibble.bit : Nibble → Bool × BitVec 3
  | .x0 => (false, 0#3)
  | .x1 => (false, 1#3)
  | .x2 => (false, 2#3)
  | .x3 => (false, 3#3)
  | .x4 => (false, 4#3)
  | .x5 => (false, 5#3)
  | .x6 => (false, 6#3)
  | .x7 => (false, 7#3)
  | .x8 => (true, 0#3)
  | .x9 => (true, 1#3)
  | .xA => (true, 2#3)
  | .xB => (true, 3#3)
  | .xC => (true, 4#3)
  | .xD => (true, 5#3)
  | .xE => (true, 6#3)
  | .xF => (true, 7#3)

/-- The nibble with the given bit 3 and 3-bit number. -/
def bitNib (b : Bool) (n : BitVec 3) : Nibble := .ofBits (BitVec.ofBool b ++ n)

/-- An 8-bit register field (R86). -/
def Nibble.reg8 (x : Nibble) : Reg8 := { low := x.reg.1, n := x.reg.2 }

/-- A 16-bit register field (R87). -/
def Nibble.reg16 (x : Nibble) : Reg16 := { ext := x.reg.1, n := x.reg.2 }

/-- `0erd`: a 3-bit register field under a fixed 0 bit; none when the bit is 1 (R107). -/
def Nibble.reg0 (x : Nibble) : Option RegNum :=
  match x.reg with
  | (false, r) => some r
  | (true, _) => none

/-- `1ers`: a 3-bit register field under a fixed 1 bit; none when the bit is 0 (R107). -/
def Nibble.reg1 (x : Nibble) : Option RegNum :=
  match x.reg with
  | (true, r) => some r
  | (false, _) => none

/-- `0IMM3`: a bit number under a fixed 0 bit; none when the bit is 1 (R261). -/
def Nibble.bit0 (x : Nibble) : Option (BitVec 3) :=
  match x.bit with
  | (false, n) => some n
  | (true, _) => none

/-- The nibble of an 8-bit register. -/
def Reg8.nib (r : Reg8) : Nibble := regNib r.low r.n

/-- The nibble of a 16-bit register. -/
def Reg16.nib (r : Reg16) : Nibble := regNib r.ext r.n

/-- The nibble `0erd`. -/
def RegNum.nib0 (r : RegNum) : Nibble := regNib false r

/-- The nibble `1ers`. -/
def RegNum.nib1 (r : RegNum) : Nibble := regNib true r

/-- A 16-bit field, most significant byte first (R80). -/
def be16 (a b : Byte) : BitVec 16 := a ++ b

/-- A 24-bit field, most significant byte first (R80). -/
def be24 (a b c : Byte) : BitVec 24 := a ++ b ++ c

/-- A 32-bit field, most significant byte first (R80). -/
def be32 (a b c d : Byte) : BitVec 32 := a ++ b ++ c ++ d

/-- The bytes of a 16-bit field. -/
def bytes16 (x : BitVec 16) : List Byte := [x.extractLsb' 8 8, x.extractLsb' 0 8]

/-- The bytes of a 24-bit field. -/
def bytes24 (x : BitVec 24) : List Byte := [x.extractLsb' 16 8, x.extractLsb' 8 8, x.extractLsb' 0 8]

/-- The bytes of a 32-bit field. -/
def bytes32 (x : BitVec 32) : List Byte :=
  [x.extractLsb' 24 8, x.extractLsb' 16 8, x.extractLsb' 8 8, x.extractLsb' 0 8]

/-- A 16-bit field at the head of the bytes. -/
def ext16 {α : Type} (bs : List Byte) (k : BitVec 16 → Option α) : Option α :=
  match bs with
  | a :: b :: _ => k (be16 a b)
  | _ => none

/-- A 24-bit field carried as 32 bits with the upper byte H'00 (R81): none when that byte is not 0. -/
def ext24 {α : Type} (bs : List Byte) (k : BitVec 24 → Option α) : Option α :=
  match bs with
  | z :: a :: b :: c :: _ => if z = 0#8 then k (be24 a b c) else none
  | _ => none

/-- A 32-bit field at the head of the bytes. -/
def ext32 {α : Type} (bs : List Byte) (k : BitVec 32 → Option α) : Option α :=
  match bs with
  | a :: b :: c :: d :: _ => k (be32 a b c d)
  | _ => none

/-! ## The decoder

In every function `bh bl` are the nibbles of byte 2, `b` is byte 2, and `t` is what follows it. -/

/-- The body of the prefix `0100`: MOV.L memory forms (R83, R128 to R141). The pop and push words decode to POP.L and
PUSH.L (R111, log 28). -/
def decode0100 : List Byte → Option Instr
  | a :: b :: t =>
    match hiNib a, loNib a with
    | .x6, .x9 =>
      match (hiNib b).reg, (loNib b).reg0 with
      | (false, ers), some erd => some (.movLLdInd ers erd)
      | (true, erd), some ers => some (.movLStInd ers erd)
      | _, none => none
    | .x6, .xD =>
      match (hiNib b).reg, (loNib b).reg0 with
      | (false, .r7), some ern => some (.popL ern)
      | (true, .r7), some ern => some (.pushL ern)
      | (false, ers), some erd => some (.movLLdInc ers erd)
      | (true, erd), some ers => some (.movLStDec ers erd)
      | _, none => none
    | .x6, .xF =>
      match (hiNib b).reg, (loNib b).reg0 with
      | (false, ers), some erd => ext16 t fun d => some (.movLLdD16 d ers erd)
      | (true, erd), some ers => ext16 t fun d => some (.movLStD16 ers d erd)
      | _, none => none
    | .x6, .xB =>
      match hiNib b, (loNib b).reg0 with
      | .x0, some erd => ext16 t fun aa => some (.movLLdA16 aa erd)
      | .x2, some erd => ext24 t fun aa => some (.movLLdA24 aa erd)
      | .x8, some ers => ext16 t fun aa => some (.movLStA16 ers aa)
      | .xA, some ers => ext24 t fun aa => some (.movLStA24 ers aa)
      | _, _ => none
    | .x7, .x8 =>
      match (hiNib b).reg, loNib b, t with
      | (x, r), .x0, c :: d :: u =>
        match hiNib c, loNib c, hiNib d, (loNib d).reg0, x with
        | .x6, .xB, .x2, some erd, false => ext24 u fun disp => some (.movLLdD24 disp r erd)
        | .x6, .xB, .xA, some ers, true => ext24 u fun disp => some (.movLStD24 ers disp r)
        | _, _, _, _, _ => none
      | _, _, _ => none
    | _, _ => none
  | _ => none

/-- The body of the prefix `0140`: LDC.W and STC.W (R83, R316, R318). -/
def decode0140 : List Byte → Option Instr
  | a :: b :: t =>
    match hiNib a, loNib a with
    | .x6, .x9 =>
      match (hiNib b).reg, loNib b with
      | (false, ers), .x0 => some (.ldcWInd ers)
      | (true, erd), .x0 => some (.stcWInd erd)
      | _, _ => none
    | .x6, .xD =>
      match (hiNib b).reg, loNib b with
      | (false, ers), .x0 => some (.ldcWInc ers)
      | (true, erd), .x0 => some (.stcWDec erd)
      | _, _ => none
    | .x6, .xF =>
      match (hiNib b).reg, loNib b with
      | (false, ers), .x0 => ext16 t fun d => some (.ldcWD16 d ers)
      | (true, erd), .x0 => ext16 t fun d => some (.stcWD16 d erd)
      | _, _ => none
    | .x6, .xB =>
      match hiNib b, loNib b with
      | .x0, .x0 => ext16 t fun aa => some (.ldcWA16 aa)
      | .x2, .x0 => ext24 t fun aa => some (.ldcWA24 aa)
      | .x8, .x0 => ext16 t fun aa => some (.stcWA16 aa)
      | .xA, .x0 => ext24 t fun aa => some (.stcWA24 aa)
      | _, _ => none
    | .x7, .x8 =>
      match (hiNib b).reg0, loNib b, t with
      | some r, .x0, c :: d :: u =>
        match hiNib c, loNib c, hiNib d, loNib d with
        | .x6, .xB, .x2, .x0 => ext24 u fun disp => some (.ldcWD24 disp r)
        | .x6, .xB, .xA, .x0 => ext24 u fun disp => some (.stcWD24 disp r)
        | _, _, _, _ => none
      | _, _, _ => none
    | _, _ => none
  | _ => none

/-- First byte 01: prefixes and SLEEP (R105, R106). -/
def decode01 (bh bl : Nibble) (t : List Byte) : Option Instr :=
  match bh, bl with
  | .x0, .x0 => decode0100 t
  | .x4, .x0 => decode0140 t
  | .x8, .x0 => some .sleep
  | .xC, .x0 =>
    match t with
    | c :: d :: _ =>
      match hiNib c, loNib c with
      | .x5, .x0 => some (.mulxsB (hiNib d).reg8 (loNib d).reg16)
      | .x5, .x2 => (loNib d).reg0.map fun erd => .mulxsW (hiNib d).reg16 erd
      | _, _ => none
    | _ => none
  | .xD, .x0 =>
    match t with
    | c :: d :: _ =>
      match hiNib c, loNib c with
      | .x5, .x1 => some (.divxsB (hiNib d).reg8 (loNib d).reg16)
      | .x5, .x3 => (loNib d).reg0.map fun erd => .divxsW (hiNib d).reg16 erd
      | _, _ => none
    | _ => none
  | .xF, .x0 =>
    match t with
    | c :: d :: _ =>
      match hiNib c, loNib c, (hiNib d).reg0, (loNib d).reg0 with
      | .x6, .x4, some ers, some erd => some (.orLReg ers erd)
      | .x6, .x5, some ers, some erd => some (.xorLReg ers erd)
      | .x6, .x6, some ers, some erd => some (.andLReg ers erd)
      | _, _, _, _ => none
    | _ => none
  | _, _ => none

/-- First byte 0A or 1A, 0F or 1F: `one` for BH = 0, `two` for BH = 8 to F (R105). -/
def decodeA (bh bl : Nibble) (one : Reg8 → Instr) (two : RegNum → RegNum → Instr) : Option Instr :=
  match bh with
  | .x0 => some (one bl.reg8)
  | h =>
    match h.reg1, bl.reg0 with
    | some ers, some erd => some (two ers erd)
    | _, _ => none

/-- First byte 0B (R105). -/
def decode0B (bh bl : Nibble) : Option Instr :=
  match bh with
  | .x0 => bl.reg0.map .adds1
  | .x5 => some (.incW1 bl.reg16)
  | .x7 => bl.reg0.map .incL1
  | .x8 => bl.reg0.map .adds2
  | .x9 => bl.reg0.map .adds4
  | .xD => some (.incW2 bl.reg16)
  | .xF => bl.reg0.map .incL2
  | _ => none

/-- First byte 1B (R105). -/
def decode1B (bh bl : Nibble) : Option Instr :=
  match bh with
  | .x0 => bl.reg0.map .subs1
  | .x5 => some (.decW1 bl.reg16)
  | .x7 => bl.reg0.map .decL1
  | .x8 => bl.reg0.map .subs2
  | .x9 => bl.reg0.map .subs4
  | .xD => some (.decW2 bl.reg16)
  | .xF => bl.reg0.map .decL2
  | _ => none

/-- First byte 10 to 13: six forms, the first three under BH = 0, 1, 3, the others under 8, 9, B (R105, R240). -/
def decodeShift (bh bl : Nibble) (b0 : Reg8 → Instr) (w1 : Reg16 → Instr) (l3 : RegNum → Instr)
    (b8 : Reg8 → Instr) (w9 : Reg16 → Instr) (lB : RegNum → Instr) : Option Instr :=
  match bh with
  | .x0 => some (b0 bl.reg8)
  | .x1 => some (w1 bl.reg16)
  | .x3 => bl.reg0.map l3
  | .x8 => some (b8 bl.reg8)
  | .x9 => some (w9 bl.reg16)
  | .xB => bl.reg0.map lB
  | _ => none

/-- First byte 17 (R105). -/
def decode17 (bh bl : Nibble) : Option Instr :=
  match bh with
  | .x0 => some (.notB bl.reg8)
  | .x1 => some (.notW bl.reg16)
  | .x3 => bl.reg0.map .notL
  | .x5 => some (.extuW bl.reg16)
  | .x7 => bl.reg0.map .extuL
  | .x8 => some (.negB bl.reg8)
  | .x9 => some (.negW bl.reg16)
  | .xB => bl.reg0.map .negL
  | .xD => some (.extsW bl.reg16)
  | .xF => bl.reg0.map .extsL
  | _ => none

/-- First nibble 0 (R104). -/
def decode0 (al bh bl : Nibble) (b : Byte) (t : List Byte) : Option Instr :=
  match al with
  | .x0 =>
    match bh, bl with
    | .x0, .x0 => some .nop
    | _, _ => none
  | .x1 => decode01 bh bl t
  | .x2 =>
    match bh with
    | .x0 => some (.stcBReg bl.reg8)
    | _ => none
  | .x3 =>
    match bh with
    | .x0 => some (.ldcBReg bl.reg8)
    | _ => none
  | .x4 => some (.orc b)
  | .x5 => some (.xorc b)
  | .x6 => some (.andc b)
  | .x7 => some (.ldcBImm b)
  | .x8 => some (.addBReg bh.reg8 bl.reg8)
  | .x9 => some (.addWReg bh.reg16 bl.reg16)
  | .xA => decodeA bh bl .incB .addLReg
  | .xB => decode0B bh bl
  | .xC => some (.movBRR bh.reg8 bl.reg8)
  | .xD => some (.movWRR bh.reg16 bl.reg16)
  | .xE => some (.addxReg bh.reg8 bl.reg8)
  | .xF => decodeA bh bl .daa .movLRR

/-- First nibble 1 (R104). -/
def decode1 (al bh bl : Nibble) : Option Instr :=
  match al with
  | .x0 => decodeShift bh bl .shllB .shllW .shllL .shalB .shalW .shalL
  | .x1 => decodeShift bh bl .shlrB .shlrW .shlrL .sharB .sharW .sharL
  | .x2 => decodeShift bh bl .rotxlB .rotxlW .rotxlL .rotlB .rotlW .rotlL
  | .x3 => decodeShift bh bl .rotxrB .rotxrW .rotxrL .rotrB .rotrW .rotrL
  | .x4 => some (.orBReg bh.reg8 bl.reg8)
  | .x5 => some (.xorBReg bh.reg8 bl.reg8)
  | .x6 => some (.andBReg bh.reg8 bl.reg8)
  | .x7 => decode17 bh bl
  | .x8 => some (.subBReg bh.reg8 bl.reg8)
  | .x9 => some (.subWReg bh.reg16 bl.reg16)
  | .xA => decodeA bh bl .decB .subLReg
  | .xB => decode1B bh bl
  | .xC => some (.cmpBReg bh.reg8 bl.reg8)
  | .xD => some (.cmpWReg bh.reg16 bl.reg16)
  | .xE => some (.subxReg bh.reg8 bl.reg8)
  | .xF => decodeA bh bl .das .cmpLReg

/-- Bcc: the condition nibble (R104, R105, R291), with the displacement in its size. -/
def decodeBcc (cc : Nibble) (d : Disp) : Instr :=
  match cc with
  | .x0 => .bra d
  | .x1 => .brn d
  | .x2 => .bhi d
  | .x3 => .bls d
  | .x4 => .bcc d
  | .x5 => .bcs d
  | .x6 => .bne d
  | .x7 => .beq d
  | .x8 => .bvc d
  | .x9 => .bvs d
  | .xA => .bpl d
  | .xB => .bmi d
  | .xC => .bge d
  | .xD => .blt d
  | .xE => .bgt d
  | .xF => .ble d

/-- First nibble 5 (R104). -/
def decode5 (al bh bl : Nibble) (b : Byte) (t : List Byte) : Option Instr :=
  match al with
  | .x0 => some (.mulxuB bh.reg8 bl.reg16)
  | .x1 => some (.divxuB bh.reg8 bl.reg16)
  | .x2 => bl.reg0.map fun erd => .mulxuW bh.reg16 erd
  | .x3 => bl.reg0.map fun erd => .divxuW bh.reg16 erd
  | .x4 =>
    match bh, bl with
    | .x7, .x0 => some .rts
    | _, _ => none
  | .x5 => some (.bsr (.d8 b))
  | .x6 =>
    match bh, bl with
    | .x7, .x0 => some .rte
    | _, _ => none
  | .x7 =>
    match bh, bl with
    | .x0, .x0 => some .trapa0
    | .x1, .x0 => some .trapa1
    | .x2, .x0 => some .trapa2
    | .x3, .x0 => some .trapa3
    | _, _ => none
  | .x8 =>
    match bl with
    | .x0 => ext16 t fun d => some (decodeBcc bh (.d16 d))
    | _ => none
  | .x9 =>
    match bh.reg0, bl with
    | some r, .x0 => some (.jmpInd r)
    | _, _ => none
  | .xA => ext16 t fun lo => some (.jmpAbs (b ++ lo))
  | .xB => some (.jmpMem b)
  | .xC =>
    match bh, bl with
    | .x0, .x0 => ext16 t fun d => some (.bsr (.d16 d))
    | _, _ => none
  | .xD =>
    match bh.reg0, bl with
    | some r, .x0 => some (.jsrInd r)
    | _, _ => none
  | .xE => ext16 t fun lo => some (.jsrAbs (b ++ lo))
  | .xF => some (.jsrMem b)

/-- First nibble 6 (R104, R105). The words of MOV.W with @ER7+ and @-ER7 decode to POP.W and PUSH.W (R111, log
28). -/
def decode6 (al bh bl : Nibble) (t : List Byte) : Option Instr :=
  match al with
  | .x0 => some (.bsetRegReg bh.reg8 bl.reg8)
  | .x1 => some (.bnotRegReg bh.reg8 bl.reg8)
  | .x2 => some (.bclrRegReg bh.reg8 bl.reg8)
  | .x3 => some (.btstRegReg bh.reg8 bl.reg8)
  | .x4 => some (.orWReg bh.reg16 bl.reg16)
  | .x5 => some (.xorWReg bh.reg16 bl.reg16)
  | .x6 => some (.andWReg bh.reg16 bl.reg16)
  | .x7 =>
    match bh.bit with
    | (false, n) => some (.bstReg n bl.reg8)
    | (true, n) => some (.bistReg n bl.reg8)
  | .x8 =>
    match bh.reg with
    | (false, r) => some (.movBLdInd r bl.reg8)
    | (true, r) => some (.movBStInd bl.reg8 r)
  | .x9 =>
    match bh.reg with
    | (false, r) => some (.movWLdInd r bl.reg16)
    | (true, r) => some (.movWStInd bl.reg16 r)
  | .xA =>
    match bh with
    | .x0 => ext16 t fun aa => some (.movBLdA16 aa bl.reg8)
    | .x2 => ext24 t fun aa => some (.movBLdA24 aa bl.reg8)
    | .x4 => ext16 t fun aa => some (.movfpe aa bl.reg8)
    | .x8 => ext16 t fun aa => some (.movBStA16 bl.reg8 aa)
    | .xA => ext24 t fun aa => some (.movBStA24 bl.reg8 aa)
    | .xC => ext16 t fun aa => some (.movtpe bl.reg8 aa)
    | _ => none
  | .xB =>
    match bh with
    | .x0 => ext16 t fun aa => some (.movWLdA16 aa bl.reg16)
    | .x2 => ext24 t fun aa => some (.movWLdA24 aa bl.reg16)
    | .x8 => ext16 t fun aa => some (.movWStA16 bl.reg16 aa)
    | .xA => ext24 t fun aa => some (.movWStA24 bl.reg16 aa)
    | _ => none
  | .xC =>
    match bh.reg with
    | (false, r) => some (.movBLdInc r bl.reg8)
    | (true, r) => some (.movBStDec bl.reg8 r)
  | .xD =>
    match bh.reg with
    | (false, .r7) => some (.popW bl.reg16)
    | (true, .r7) => some (.pushW bl.reg16)
    | (false, r) => some (.movWLdInc r bl.reg16)
    | (true, r) => some (.movWStDec bl.reg16 r)
  | .xE =>
    match bh.reg with
    | (false, r) => ext16 t fun d => some (.movBLdD16 d r bl.reg8)
    | (true, r) => ext16 t fun d => some (.movBStD16 bl.reg8 d r)
  | .xF =>
    match bh.reg with
    | (false, r) => ext16 t fun d => some (.movWLdD16 d r bl.reg16)
    | (true, r) => ext16 t fun d => some (.movWStD16 bl.reg16 d r)

/-- First byte 78: B and W forms of @(d:24,ERn) (R130, R137). -/
def decode78 (r : RegNum) (t : List Byte) : Option Instr :=
  match t with
  | c :: d :: u =>
    match hiNib c, loNib c, hiNib d with
    | .x6, .xA, .x2 => ext24 u fun disp => some (.movBLdD24 disp r (loNib d).reg8)
    | .x6, .xA, .xA => ext24 u fun disp => some (.movBStD24 (loNib d).reg8 disp r)
    | .x6, .xB, .x2 => ext24 u fun disp => some (.movWLdD24 disp r (loNib d).reg16)
    | .x6, .xB, .xA => ext24 u fun disp => some (.movWStD24 (loNib d).reg16 disp r)
    | _, _, _ => none
  | _ => none

/-- A bit-manipulation body that only reads its byte (R106 rows 7C and 7E): `ind` for a memory operand at @ERd or
@aa:8, by the constructors given in the order BTST Rn, BTST #, BOR, BIOR, BXOR, BIXOR, BAND, BIAND, BLD, BILD. -/
def decodeBitRead (t : List Byte) (tstR : Reg8 → Instr)
    (tst bor bior bxor bixor band biand bld bild : BitVec 3 → Instr) : Option Instr :=
  match t with
  | c :: d :: _ =>
    match loNib d with
    | .x0 =>
      match hiNib c, loNib c with
      | .x6, .x3 => some (tstR (hiNib d).reg8)
      | .x7, .x3 => (hiNib d).bit0.map tst
      | .x7, .x4 =>
        match (hiNib d).bit with
        | (false, n) => some (bor n)
        | (true, n) => some (bior n)
      | .x7, .x5 =>
        match (hiNib d).bit with
        | (false, n) => some (bxor n)
        | (true, n) => some (bixor n)
      | .x7, .x6 =>
        match (hiNib d).bit with
        | (false, n) => some (band n)
        | (true, n) => some (biand n)
      | .x7, .x7 =>
        match (hiNib d).bit with
        | (false, n) => some (bld n)
        | (true, n) => some (bild n)
      | _, _ => none
    | _ => none
  | _ => none

/-- A bit-manipulation body that writes its byte (R106 rows 7D and 7F), by the constructors given in the order BSET Rn,
BNOT Rn, BCLR Rn, BSET #, BNOT #, BCLR #, BST, BIST. -/
def decodeBitWrite (t : List Byte) (setR notR clrR : Reg8 → Instr)
    (set not clr st ist : BitVec 3 → Instr) : Option Instr :=
  match t with
  | c :: d :: _ =>
    match loNib d with
    | .x0 =>
      match hiNib c, loNib c with
      | .x6, .x0 => some (setR (hiNib d).reg8)
      | .x6, .x1 => some (notR (hiNib d).reg8)
      | .x6, .x2 => some (clrR (hiNib d).reg8)
      | .x6, .x7 =>
        match (hiNib d).bit with
        | (false, n) => some (st n)
        | (true, n) => some (ist n)
      | .x7, .x0 => (hiNib d).bit0.map set
      | .x7, .x1 => (hiNib d).bit0.map not
      | .x7, .x2 => (hiNib d).bit0.map clr
      | _, _ => none
    | _ => none
  | _ => none

/-- First byte 79: 16-bit immediates (R105). -/
def decode79 (bh bl : Nibble) (t : List Byte) : Option Instr :=
  match bh with
  | .x0 => ext16 t fun i => some (.movWImm i bl.reg16)
  | .x1 => ext16 t fun i => some (.addWImm i bl.reg16)
  | .x2 => ext16 t fun i => some (.cmpWImm i bl.reg16)
  | .x3 => ext16 t fun i => some (.subWImm i bl.reg16)
  | .x4 => ext16 t fun i => some (.orWImm i bl.reg16)
  | .x5 => ext16 t fun i => some (.xorWImm i bl.reg16)
  | .x6 => ext16 t fun i => some (.andWImm i bl.reg16)
  | _ => none

/-- First byte 7A: 32-bit immediates (R105). -/
def decode7A (bh bl : Nibble) (t : List Byte) : Option Instr :=
  match bh, bl.reg0 with
  | .x0, some erd => ext32 t fun i => some (.movLImm i erd)
  | .x1, some erd => ext32 t fun i => some (.addLImm i erd)
  | .x2, some erd => ext32 t fun i => some (.cmpLImm i erd)
  | .x3, some erd => ext32 t fun i => some (.subLImm i erd)
  | .x4, some erd => ext32 t fun i => some (.orLImm i erd)
  | .x5, some erd => ext32 t fun i => some (.xorLImm i erd)
  | .x6, some erd => ext32 t fun i => some (.andLImm i erd)
  | _, _ => none

/-- First byte 7B: EEPMOV (R341, R342). -/
def decode7B (bh bl : Nibble) (t : List Byte) : Option Instr :=
  match t with
  | c :: d :: _ =>
    match hiNib c, loNib c, hiNib d, loNib d with
    | .x5, .x9, .x8, .xF =>
      match bh, bl with
      | .x5, .xC => some .eepmovB
      | .xD, .x4 => some .eepmovW
      | _, _ => none
    | _, _, _, _ => none
  | _ => none

/-- First nibble 7 (R104 to R106). -/
def decode7 (al bh bl : Nibble) (b : Byte) (t : List Byte) : Option Instr :=
  match al with
  | .x0 => bh.bit0.map fun n => .bsetImmReg n bl.reg8
  | .x1 => bh.bit0.map fun n => .bnotImmReg n bl.reg8
  | .x2 => bh.bit0.map fun n => .bclrImmReg n bl.reg8
  | .x3 => bh.bit0.map fun n => .btstImmReg n bl.reg8
  | .x4 =>
    match bh.bit with
    | (false, n) => some (.borReg n bl.reg8)
    | (true, n) => some (.biorReg n bl.reg8)
  | .x5 =>
    match bh.bit with
    | (false, n) => some (.bxorReg n bl.reg8)
    | (true, n) => some (.bixorReg n bl.reg8)
  | .x6 =>
    match bh.bit with
    | (false, n) => some (.bandReg n bl.reg8)
    | (true, n) => some (.biandReg n bl.reg8)
  | .x7 =>
    match bh.bit with
    | (false, n) => some (.bldReg n bl.reg8)
    | (true, n) => some (.bildReg n bl.reg8)
  | .x8 =>
    match bh.reg0, bl with
    | some r, .x0 => decode78 r t
    | _, _ => none
  | .x9 => decode79 bh bl t
  | .xA => decode7A bh bl t
  | .xB => decode7B bh bl t
  | .xC =>
    match bh.reg0, bl with
    | some r, .x0 =>
      decodeBitRead t (.btstRegInd · r) (.btstImmInd · r) (.borInd · r) (.biorInd · r) (.bxorInd · r)
        (.bixorInd · r) (.bandInd · r) (.biandInd · r) (.bldInd · r) (.bildInd · r)
    | _, _ => none
  | .xD =>
    match bh.reg0, bl with
    | some r, .x0 =>
      decodeBitWrite t (.bsetRegInd · r) (.bnotRegInd · r) (.bclrRegInd · r) (.bsetImmInd · r)
        (.bnotImmInd · r) (.bclrImmInd · r) (.bstInd · r) (.bistInd · r)
    | _, _ => none
  | .xE =>
    decodeBitRead t (.btstRegAbs · b) (.btstImmAbs · b) (.borAbs · b) (.biorAbs · b) (.bxorAbs · b)
      (.bixorAbs · b) (.bandAbs · b) (.biandAbs · b) (.bldAbs · b) (.bildAbs · b)
  | .xF =>
    decodeBitWrite t (.bsetRegAbs · b) (.bnotRegAbs · b) (.bclrRegAbs · b) (.bsetImmAbs · b)
      (.bnotImmAbs · b) (.bclrImmAbs · b) (.bstAbs · b) (.bistAbs · b)

/-- The instruction the bytes begin with, by the operation code map (R104); none is an undefined encoding
(R107). -/
def decode : List Byte → Option Instr
  | a :: b :: t =>
    match hiNib a with
    | .x0 => decode0 (loNib a) (hiNib b) (loNib b) b t
    | .x1 => decode1 (loNib a) (hiNib b) (loNib b)
    | .x2 => some (.movBLdA8 b (loNib a).reg8)
    | .x3 => some (.movBStA8 (loNib a).reg8 b)
    | .x4 => some (decodeBcc (loNib a) (.d8 b))
    | .x5 => decode5 (loNib a) (hiNib b) (loNib b) b t
    | .x6 => decode6 (loNib a) (hiNib b) (loNib b) t
    | .x7 => decode7 (loNib a) (hiNib b) (loNib b) b t
    | .x8 => some (.addBImm b (loNib a).reg8)
    | .x9 => some (.addxImm b (loNib a).reg8)
    | .xA => some (.cmpBImm b (loNib a).reg8)
    | .xB => some (.subxImm b (loNib a).reg8)
    | .xC => some (.orBImm b (loNib a).reg8)
    | .xD => some (.xorBImm b (loNib a).reg8)
    | .xE => some (.andBImm b (loNib a).reg8)
    | .xF => some (.movBImm b (loNib a).reg8)
  | _ => none

/-! ## The encoder and the lengths -/

/-- The bytes of an instruction, first byte first. -/
def encode : Instr → List Byte
  | .movBRR rs rd => [nibs .x0 .xC, nibs rs.nib rd.nib]
  | .movWRR rs rd => [nibs .x0 .xD, nibs rs.nib rd.nib]
  | .movLRR ers erd => [nibs .x0 .xF, nibs ers.nib1 erd.nib0]
  | .movBImm imm rd => [nibs .xF rd.nib, imm]
  | .movWImm imm rd => [nibs .x7 .x9, nibs .x0 rd.nib] ++ bytes16 imm
  | .movLImm imm erd => [nibs .x7 .xA, nibs .x0 erd.nib0] ++ bytes32 imm
  | .movBLdInd ers rd => [nibs .x6 .x8, nibs ers.nib0 rd.nib]
  | .movWLdInd ers rd => [nibs .x6 .x9, nibs ers.nib0 rd.nib]
  | .movLLdInd ers erd => [nibs .x0 .x1, nibs .x0 .x0, nibs .x6 .x9, nibs ers.nib0 erd.nib0]
  | .movBLdD16 disp ers rd => [nibs .x6 .xE, nibs ers.nib0 rd.nib] ++ bytes16 disp
  | .movWLdD16 disp ers rd => [nibs .x6 .xF, nibs ers.nib0 rd.nib] ++ bytes16 disp
  | .movLLdD16 disp ers erd =>
    [nibs .x0 .x1, nibs .x0 .x0, nibs .x6 .xF, nibs ers.nib0 erd.nib0] ++ bytes16 disp
  | .movBLdD24 disp ers rd =>
    [nibs .x7 .x8, nibs ers.nib0 .x0, nibs .x6 .xA, nibs .x2 rd.nib, nibs .x0 .x0] ++ bytes24 disp
  | .movWLdD24 disp ers rd =>
    [nibs .x7 .x8, nibs ers.nib0 .x0, nibs .x6 .xB, nibs .x2 rd.nib, nibs .x0 .x0] ++ bytes24 disp
  | .movLLdD24 disp ers erd =>
    [nibs .x0 .x1, nibs .x0 .x0, nibs .x7 .x8, nibs ers.nib0 .x0, nibs .x6 .xB, nibs .x2 erd.nib0, nibs .x0 .x0] ++ bytes24 disp
  | .movBLdInc ers rd => [nibs .x6 .xC, nibs ers.nib0 rd.nib]
  | .movWLdInc ers rd => [nibs .x6 .xD, nibs ers.nib0 rd.nib]
  | .movLLdInc ers erd => [nibs .x0 .x1, nibs .x0 .x0, nibs .x6 .xD, nibs ers.nib0 erd.nib0]
  | .movBLdA8 aa rd => [nibs .x2 rd.nib, aa]
  | .movBLdA16 aa rd => [nibs .x6 .xA, nibs .x0 rd.nib] ++ bytes16 aa
  | .movWLdA16 aa rd => [nibs .x6 .xB, nibs .x0 rd.nib] ++ bytes16 aa
  | .movLLdA16 aa erd => [nibs .x0 .x1, nibs .x0 .x0, nibs .x6 .xB, nibs .x0 erd.nib0] ++ bytes16 aa
  | .movBLdA24 aa rd => [nibs .x6 .xA, nibs .x2 rd.nib, nibs .x0 .x0] ++ bytes24 aa
  | .movWLdA24 aa rd => [nibs .x6 .xB, nibs .x2 rd.nib, nibs .x0 .x0] ++ bytes24 aa
  | .movLLdA24 aa erd =>
    [nibs .x0 .x1, nibs .x0 .x0, nibs .x6 .xB, nibs .x2 erd.nib0, nibs .x0 .x0] ++ bytes24 aa
  | .movBStInd rs erd => [nibs .x6 .x8, nibs erd.nib1 rs.nib]
  | .movWStInd rs erd => [nibs .x6 .x9, nibs erd.nib1 rs.nib]
  | .movLStInd ers erd => [nibs .x0 .x1, nibs .x0 .x0, nibs .x6 .x9, nibs erd.nib1 ers.nib0]
  | .movBStD16 rs disp erd => [nibs .x6 .xE, nibs erd.nib1 rs.nib] ++ bytes16 disp
  | .movWStD16 rs disp erd => [nibs .x6 .xF, nibs erd.nib1 rs.nib] ++ bytes16 disp
  | .movLStD16 ers disp erd =>
    [nibs .x0 .x1, nibs .x0 .x0, nibs .x6 .xF, nibs erd.nib1 ers.nib0] ++ bytes16 disp
  | .movBStD24 rs disp erd =>
    [nibs .x7 .x8, nibs erd.nib0 .x0, nibs .x6 .xA, nibs .xA rs.nib, nibs .x0 .x0] ++ bytes24 disp
  | .movWStD24 rs disp erd =>
    [nibs .x7 .x8, nibs erd.nib0 .x0, nibs .x6 .xB, nibs .xA rs.nib, nibs .x0 .x0] ++ bytes24 disp
  | .movLStD24 ers disp erd =>
    [nibs .x0 .x1, nibs .x0 .x0, nibs .x7 .x8, nibs erd.nib1 .x0, nibs .x6 .xB, nibs .xA ers.nib0, nibs .x0 .x0] ++ bytes24 disp
  | .movBStDec rs erd => [nibs .x6 .xC, nibs erd.nib1 rs.nib]
  | .movWStDec rs erd => [nibs .x6 .xD, nibs erd.nib1 rs.nib]
  | .movLStDec ers erd => [nibs .x0 .x1, nibs .x0 .x0, nibs .x6 .xD, nibs erd.nib1 ers.nib0]
  | .movBStA8 rs aa => [nibs .x3 rs.nib, aa]
  | .movBStA16 rs aa => [nibs .x6 .xA, nibs .x8 rs.nib] ++ bytes16 aa
  | .movWStA16 rs aa => [nibs .x6 .xB, nibs .x8 rs.nib] ++ bytes16 aa
  | .movLStA16 ers aa => [nibs .x0 .x1, nibs .x0 .x0, nibs .x6 .xB, nibs .x8 ers.nib0] ++ bytes16 aa
  | .movBStA24 rs aa => [nibs .x6 .xA, nibs .xA rs.nib, nibs .x0 .x0] ++ bytes24 aa
  | .movWStA24 rs aa => [nibs .x6 .xB, nibs .xA rs.nib, nibs .x0 .x0] ++ bytes24 aa
  | .movLStA24 ers aa =>
    [nibs .x0 .x1, nibs .x0 .x0, nibs .x6 .xB, nibs .xA ers.nib0, nibs .x0 .x0] ++ bytes24 aa
  | .movfpe aa rd => [nibs .x6 .xA, nibs .x4 rd.nib] ++ bytes16 aa
  | .movtpe rs aa => [nibs .x6 .xA, nibs .xC rs.nib] ++ bytes16 aa
  | .popW rn => [nibs .x6 .xD, nibs .x7 rn.nib]
  | .popL ern => [nibs .x0 .x1, nibs .x0 .x0, nibs .x6 .xD, nibs .x7 ern.nib0]
  | .pushW rn => [nibs .x6 .xD, nibs .xF rn.nib]
  | .pushL ern => [nibs .x0 .x1, nibs .x0 .x0, nibs .x6 .xD, nibs .xF ern.nib0]
  | .addBImm imm rd => [nibs .x8 rd.nib, imm]
  | .addBReg rs rd => [nibs .x0 .x8, nibs rs.nib rd.nib]
  | .addWImm imm rd => [nibs .x7 .x9, nibs .x1 rd.nib] ++ bytes16 imm
  | .addWReg rs rd => [nibs .x0 .x9, nibs rs.nib rd.nib]
  | .addLImm imm erd => [nibs .x7 .xA, nibs .x1 erd.nib0] ++ bytes32 imm
  | .addLReg ers erd => [nibs .x0 .xA, nibs ers.nib1 erd.nib0]
  | .subBReg rs rd => [nibs .x1 .x8, nibs rs.nib rd.nib]
  | .subWImm imm rd => [nibs .x7 .x9, nibs .x3 rd.nib] ++ bytes16 imm
  | .subWReg rs rd => [nibs .x1 .x9, nibs rs.nib rd.nib]
  | .subLImm imm erd => [nibs .x7 .xA, nibs .x3 erd.nib0] ++ bytes32 imm
  | .subLReg ers erd => [nibs .x1 .xA, nibs ers.nib1 erd.nib0]
  | .addxImm imm rd => [nibs .x9 rd.nib, imm]
  | .addxReg rs rd => [nibs .x0 .xE, nibs rs.nib rd.nib]
  | .subxImm imm rd => [nibs .xB rd.nib, imm]
  | .subxReg rs rd => [nibs .x1 .xE, nibs rs.nib rd.nib]
  | .incB rd => [nibs .x0 .xA, nibs .x0 rd.nib]
  | .incW1 rd => [nibs .x0 .xB, nibs .x5 rd.nib]
  | .incW2 rd => [nibs .x0 .xB, nibs .xD rd.nib]
  | .incL1 erd => [nibs .x0 .xB, nibs .x7 erd.nib0]
  | .incL2 erd => [nibs .x0 .xB, nibs .xF erd.nib0]
  | .decB rd => [nibs .x1 .xA, nibs .x0 rd.nib]
  | .decW1 rd => [nibs .x1 .xB, nibs .x5 rd.nib]
  | .decW2 rd => [nibs .x1 .xB, nibs .xD rd.nib]
  | .decL1 erd => [nibs .x1 .xB, nibs .x7 erd.nib0]
  | .decL2 erd => [nibs .x1 .xB, nibs .xF erd.nib0]
  | .adds1 erd => [nibs .x0 .xB, nibs .x0 erd.nib0]
  | .adds2 erd => [nibs .x0 .xB, nibs .x8 erd.nib0]
  | .adds4 erd => [nibs .x0 .xB, nibs .x9 erd.nib0]
  | .subs1 erd => [nibs .x1 .xB, nibs .x0 erd.nib0]
  | .subs2 erd => [nibs .x1 .xB, nibs .x8 erd.nib0]
  | .subs4 erd => [nibs .x1 .xB, nibs .x9 erd.nib0]
  | .daa rd => [nibs .x0 .xF, nibs .x0 rd.nib]
  | .das rd => [nibs .x1 .xF, nibs .x0 rd.nib]
  | .mulxuB rs rd => [nibs .x5 .x0, nibs rs.nib rd.nib]
  | .mulxuW rs erd => [nibs .x5 .x2, nibs rs.nib erd.nib0]
  | .mulxsB rs rd => [nibs .x0 .x1, nibs .xC .x0, nibs .x5 .x0, nibs rs.nib rd.nib]
  | .mulxsW rs erd => [nibs .x0 .x1, nibs .xC .x0, nibs .x5 .x2, nibs rs.nib erd.nib0]
  | .divxuB rs rd => [nibs .x5 .x1, nibs rs.nib rd.nib]
  | .divxuW rs erd => [nibs .x5 .x3, nibs rs.nib erd.nib0]
  | .divxsB rs rd => [nibs .x0 .x1, nibs .xD .x0, nibs .x5 .x1, nibs rs.nib rd.nib]
  | .divxsW rs erd => [nibs .x0 .x1, nibs .xD .x0, nibs .x5 .x3, nibs rs.nib erd.nib0]
  | .cmpBImm imm rd => [nibs .xA rd.nib, imm]
  | .cmpBReg rs rd => [nibs .x1 .xC, nibs rs.nib rd.nib]
  | .cmpWImm imm rd => [nibs .x7 .x9, nibs .x2 rd.nib] ++ bytes16 imm
  | .cmpWReg rs rd => [nibs .x1 .xD, nibs rs.nib rd.nib]
  | .cmpLImm imm erd => [nibs .x7 .xA, nibs .x2 erd.nib0] ++ bytes32 imm
  | .cmpLReg ers erd => [nibs .x1 .xF, nibs ers.nib1 erd.nib0]
  | .negB rd => [nibs .x1 .x7, nibs .x8 rd.nib]
  | .negW rd => [nibs .x1 .x7, nibs .x9 rd.nib]
  | .negL erd => [nibs .x1 .x7, nibs .xB erd.nib0]
  | .extsW rd => [nibs .x1 .x7, nibs .xD rd.nib]
  | .extsL erd => [nibs .x1 .x7, nibs .xF erd.nib0]
  | .extuW rd => [nibs .x1 .x7, nibs .x5 rd.nib]
  | .extuL erd => [nibs .x1 .x7, nibs .x7 erd.nib0]
  | .andBImm imm rd => [nibs .xE rd.nib, imm]
  | .andBReg rs rd => [nibs .x1 .x6, nibs rs.nib rd.nib]
  | .andWImm imm rd => [nibs .x7 .x9, nibs .x6 rd.nib] ++ bytes16 imm
  | .andWReg rs rd => [nibs .x6 .x6, nibs rs.nib rd.nib]
  | .andLImm imm erd => [nibs .x7 .xA, nibs .x6 erd.nib0] ++ bytes32 imm
  | .andLReg ers erd => [nibs .x0 .x1, nibs .xF .x0, nibs .x6 .x6, nibs ers.nib0 erd.nib0]
  | .orBImm imm rd => [nibs .xC rd.nib, imm]
  | .orBReg rs rd => [nibs .x1 .x4, nibs rs.nib rd.nib]
  | .orWImm imm rd => [nibs .x7 .x9, nibs .x4 rd.nib] ++ bytes16 imm
  | .orWReg rs rd => [nibs .x6 .x4, nibs rs.nib rd.nib]
  | .orLImm imm erd => [nibs .x7 .xA, nibs .x4 erd.nib0] ++ bytes32 imm
  | .orLReg ers erd => [nibs .x0 .x1, nibs .xF .x0, nibs .x6 .x4, nibs ers.nib0 erd.nib0]
  | .xorBImm imm rd => [nibs .xD rd.nib, imm]
  | .xorBReg rs rd => [nibs .x1 .x5, nibs rs.nib rd.nib]
  | .xorWImm imm rd => [nibs .x7 .x9, nibs .x5 rd.nib] ++ bytes16 imm
  | .xorWReg rs rd => [nibs .x6 .x5, nibs rs.nib rd.nib]
  | .xorLImm imm erd => [nibs .x7 .xA, nibs .x5 erd.nib0] ++ bytes32 imm
  | .xorLReg ers erd => [nibs .x0 .x1, nibs .xF .x0, nibs .x6 .x5, nibs ers.nib0 erd.nib0]
  | .notB rd => [nibs .x1 .x7, nibs .x0 rd.nib]
  | .notW rd => [nibs .x1 .x7, nibs .x1 rd.nib]
  | .notL erd => [nibs .x1 .x7, nibs .x3 erd.nib0]
  | .shalB rd => [nibs .x1 .x0, nibs .x8 rd.nib]
  | .shalW rd => [nibs .x1 .x0, nibs .x9 rd.nib]
  | .shalL erd => [nibs .x1 .x0, nibs .xB erd.nib0]
  | .sharB rd => [nibs .x1 .x1, nibs .x8 rd.nib]
  | .sharW rd => [nibs .x1 .x1, nibs .x9 rd.nib]
  | .sharL erd => [nibs .x1 .x1, nibs .xB erd.nib0]
  | .shllB rd => [nibs .x1 .x0, nibs .x0 rd.nib]
  | .shllW rd => [nibs .x1 .x0, nibs .x1 rd.nib]
  | .shllL erd => [nibs .x1 .x0, nibs .x3 erd.nib0]
  | .shlrB rd => [nibs .x1 .x1, nibs .x0 rd.nib]
  | .shlrW rd => [nibs .x1 .x1, nibs .x1 rd.nib]
  | .shlrL erd => [nibs .x1 .x1, nibs .x3 erd.nib0]
  | .rotlB rd => [nibs .x1 .x2, nibs .x8 rd.nib]
  | .rotlW rd => [nibs .x1 .x2, nibs .x9 rd.nib]
  | .rotlL erd => [nibs .x1 .x2, nibs .xB erd.nib0]
  | .rotrB rd => [nibs .x1 .x3, nibs .x8 rd.nib]
  | .rotrW rd => [nibs .x1 .x3, nibs .x9 rd.nib]
  | .rotrL erd => [nibs .x1 .x3, nibs .xB erd.nib0]
  | .rotxlB rd => [nibs .x1 .x2, nibs .x0 rd.nib]
  | .rotxlW rd => [nibs .x1 .x2, nibs .x1 rd.nib]
  | .rotxlL erd => [nibs .x1 .x2, nibs .x3 erd.nib0]
  | .rotxrB rd => [nibs .x1 .x3, nibs .x0 rd.nib]
  | .rotxrW rd => [nibs .x1 .x3, nibs .x1 rd.nib]
  | .rotxrL erd => [nibs .x1 .x3, nibs .x3 erd.nib0]
  | .bsetImmReg imm rd => [nibs .x7 .x0, nibs (bitNib false imm) rd.nib]
  | .bsetImmInd imm erd => [nibs .x7 .xD, nibs erd.nib0 .x0, nibs .x7 .x0, nibs (bitNib false imm) .x0]
  | .bsetImmAbs imm aa => [nibs .x7 .xF, aa, nibs .x7 .x0, nibs (bitNib false imm) .x0]
  | .bsetRegReg rn rd => [nibs .x6 .x0, nibs rn.nib rd.nib]
  | .bsetRegInd rn erd => [nibs .x7 .xD, nibs erd.nib0 .x0, nibs .x6 .x0, nibs rn.nib .x0]
  | .bsetRegAbs rn aa => [nibs .x7 .xF, aa, nibs .x6 .x0, nibs rn.nib .x0]
  | .bclrImmReg imm rd => [nibs .x7 .x2, nibs (bitNib false imm) rd.nib]
  | .bclrImmInd imm erd => [nibs .x7 .xD, nibs erd.nib0 .x0, nibs .x7 .x2, nibs (bitNib false imm) .x0]
  | .bclrImmAbs imm aa => [nibs .x7 .xF, aa, nibs .x7 .x2, nibs (bitNib false imm) .x0]
  | .bclrRegReg rn rd => [nibs .x6 .x2, nibs rn.nib rd.nib]
  | .bclrRegInd rn erd => [nibs .x7 .xD, nibs erd.nib0 .x0, nibs .x6 .x2, nibs rn.nib .x0]
  | .bclrRegAbs rn aa => [nibs .x7 .xF, aa, nibs .x6 .x2, nibs rn.nib .x0]
  | .bnotImmReg imm rd => [nibs .x7 .x1, nibs (bitNib false imm) rd.nib]
  | .bnotImmInd imm erd => [nibs .x7 .xD, nibs erd.nib0 .x0, nibs .x7 .x1, nibs (bitNib false imm) .x0]
  | .bnotImmAbs imm aa => [nibs .x7 .xF, aa, nibs .x7 .x1, nibs (bitNib false imm) .x0]
  | .bnotRegReg rn rd => [nibs .x6 .x1, nibs rn.nib rd.nib]
  | .bnotRegInd rn erd => [nibs .x7 .xD, nibs erd.nib0 .x0, nibs .x6 .x1, nibs rn.nib .x0]
  | .bnotRegAbs rn aa => [nibs .x7 .xF, aa, nibs .x6 .x1, nibs rn.nib .x0]
  | .btstImmReg imm rd => [nibs .x7 .x3, nibs (bitNib false imm) rd.nib]
  | .btstImmInd imm erd => [nibs .x7 .xC, nibs erd.nib0 .x0, nibs .x7 .x3, nibs (bitNib false imm) .x0]
  | .btstImmAbs imm aa => [nibs .x7 .xE, aa, nibs .x7 .x3, nibs (bitNib false imm) .x0]
  | .btstRegReg rn rd => [nibs .x6 .x3, nibs rn.nib rd.nib]
  | .btstRegInd rn erd => [nibs .x7 .xC, nibs erd.nib0 .x0, nibs .x6 .x3, nibs rn.nib .x0]
  | .btstRegAbs rn aa => [nibs .x7 .xE, aa, nibs .x6 .x3, nibs rn.nib .x0]
  | .bandReg imm rd => [nibs .x7 .x6, nibs (bitNib false imm) rd.nib]
  | .bandInd imm erd => [nibs .x7 .xC, nibs erd.nib0 .x0, nibs .x7 .x6, nibs (bitNib false imm) .x0]
  | .bandAbs imm aa => [nibs .x7 .xE, aa, nibs .x7 .x6, nibs (bitNib false imm) .x0]
  | .biandReg imm rd => [nibs .x7 .x6, nibs (bitNib true imm) rd.nib]
  | .biandInd imm erd => [nibs .x7 .xC, nibs erd.nib0 .x0, nibs .x7 .x6, nibs (bitNib true imm) .x0]
  | .biandAbs imm aa => [nibs .x7 .xE, aa, nibs .x7 .x6, nibs (bitNib true imm) .x0]
  | .borReg imm rd => [nibs .x7 .x4, nibs (bitNib false imm) rd.nib]
  | .borInd imm erd => [nibs .x7 .xC, nibs erd.nib0 .x0, nibs .x7 .x4, nibs (bitNib false imm) .x0]
  | .borAbs imm aa => [nibs .x7 .xE, aa, nibs .x7 .x4, nibs (bitNib false imm) .x0]
  | .biorReg imm rd => [nibs .x7 .x4, nibs (bitNib true imm) rd.nib]
  | .biorInd imm erd => [nibs .x7 .xC, nibs erd.nib0 .x0, nibs .x7 .x4, nibs (bitNib true imm) .x0]
  | .biorAbs imm aa => [nibs .x7 .xE, aa, nibs .x7 .x4, nibs (bitNib true imm) .x0]
  | .bxorReg imm rd => [nibs .x7 .x5, nibs (bitNib false imm) rd.nib]
  | .bxorInd imm erd => [nibs .x7 .xC, nibs erd.nib0 .x0, nibs .x7 .x5, nibs (bitNib false imm) .x0]
  | .bxorAbs imm aa => [nibs .x7 .xE, aa, nibs .x7 .x5, nibs (bitNib false imm) .x0]
  | .bixorReg imm rd => [nibs .x7 .x5, nibs (bitNib true imm) rd.nib]
  | .bixorInd imm erd => [nibs .x7 .xC, nibs erd.nib0 .x0, nibs .x7 .x5, nibs (bitNib true imm) .x0]
  | .bixorAbs imm aa => [nibs .x7 .xE, aa, nibs .x7 .x5, nibs (bitNib true imm) .x0]
  | .bldReg imm rd => [nibs .x7 .x7, nibs (bitNib false imm) rd.nib]
  | .bldInd imm erd => [nibs .x7 .xC, nibs erd.nib0 .x0, nibs .x7 .x7, nibs (bitNib false imm) .x0]
  | .bldAbs imm aa => [nibs .x7 .xE, aa, nibs .x7 .x7, nibs (bitNib false imm) .x0]
  | .bildReg imm rd => [nibs .x7 .x7, nibs (bitNib true imm) rd.nib]
  | .bildInd imm erd => [nibs .x7 .xC, nibs erd.nib0 .x0, nibs .x7 .x7, nibs (bitNib true imm) .x0]
  | .bildAbs imm aa => [nibs .x7 .xE, aa, nibs .x7 .x7, nibs (bitNib true imm) .x0]
  | .bstReg imm rd => [nibs .x6 .x7, nibs (bitNib false imm) rd.nib]
  | .bstInd imm erd => [nibs .x7 .xD, nibs erd.nib0 .x0, nibs .x6 .x7, nibs (bitNib false imm) .x0]
  | .bstAbs imm aa => [nibs .x7 .xF, aa, nibs .x6 .x7, nibs (bitNib false imm) .x0]
  | .bistReg imm rd => [nibs .x6 .x7, nibs (bitNib true imm) rd.nib]
  | .bistInd imm erd => [nibs .x7 .xD, nibs erd.nib0 .x0, nibs .x6 .x7, nibs (bitNib true imm) .x0]
  | .bistAbs imm aa => [nibs .x7 .xF, aa, nibs .x6 .x7, nibs (bitNib true imm) .x0]
  | .bra (.d8 d) => [nibs .x4 .x0, d]
  | .bra (.d16 d) => [nibs .x5 .x8, nibs .x0 .x0] ++ bytes16 d
  | .brn (.d8 d) => [nibs .x4 .x1, d]
  | .brn (.d16 d) => [nibs .x5 .x8, nibs .x1 .x0] ++ bytes16 d
  | .bhi (.d8 d) => [nibs .x4 .x2, d]
  | .bhi (.d16 d) => [nibs .x5 .x8, nibs .x2 .x0] ++ bytes16 d
  | .bls (.d8 d) => [nibs .x4 .x3, d]
  | .bls (.d16 d) => [nibs .x5 .x8, nibs .x3 .x0] ++ bytes16 d
  | .bcc (.d8 d) => [nibs .x4 .x4, d]
  | .bcc (.d16 d) => [nibs .x5 .x8, nibs .x4 .x0] ++ bytes16 d
  | .bcs (.d8 d) => [nibs .x4 .x5, d]
  | .bcs (.d16 d) => [nibs .x5 .x8, nibs .x5 .x0] ++ bytes16 d
  | .bne (.d8 d) => [nibs .x4 .x6, d]
  | .bne (.d16 d) => [nibs .x5 .x8, nibs .x6 .x0] ++ bytes16 d
  | .beq (.d8 d) => [nibs .x4 .x7, d]
  | .beq (.d16 d) => [nibs .x5 .x8, nibs .x7 .x0] ++ bytes16 d
  | .bvc (.d8 d) => [nibs .x4 .x8, d]
  | .bvc (.d16 d) => [nibs .x5 .x8, nibs .x8 .x0] ++ bytes16 d
  | .bvs (.d8 d) => [nibs .x4 .x9, d]
  | .bvs (.d16 d) => [nibs .x5 .x8, nibs .x9 .x0] ++ bytes16 d
  | .bpl (.d8 d) => [nibs .x4 .xA, d]
  | .bpl (.d16 d) => [nibs .x5 .x8, nibs .xA .x0] ++ bytes16 d
  | .bmi (.d8 d) => [nibs .x4 .xB, d]
  | .bmi (.d16 d) => [nibs .x5 .x8, nibs .xB .x0] ++ bytes16 d
  | .bge (.d8 d) => [nibs .x4 .xC, d]
  | .bge (.d16 d) => [nibs .x5 .x8, nibs .xC .x0] ++ bytes16 d
  | .blt (.d8 d) => [nibs .x4 .xD, d]
  | .blt (.d16 d) => [nibs .x5 .x8, nibs .xD .x0] ++ bytes16 d
  | .bgt (.d8 d) => [nibs .x4 .xE, d]
  | .bgt (.d16 d) => [nibs .x5 .x8, nibs .xE .x0] ++ bytes16 d
  | .ble (.d8 d) => [nibs .x4 .xF, d]
  | .ble (.d16 d) => [nibs .x5 .x8, nibs .xF .x0] ++ bytes16 d
  | .jmpInd ern => [nibs .x5 .x9, nibs ern.nib0 .x0]
  | .jmpAbs aa => [nibs .x5 .xA] ++ bytes24 aa
  | .jmpMem aa => [nibs .x5 .xB, aa]
  | .bsr (.d8 d) => [nibs .x5 .x5, d]
  | .bsr (.d16 d) => [nibs .x5 .xC, nibs .x0 .x0] ++ bytes16 d
  | .jsrInd ern => [nibs .x5 .xD, nibs ern.nib0 .x0]
  | .jsrAbs aa => [nibs .x5 .xE] ++ bytes24 aa
  | .jsrMem aa => [nibs .x5 .xF, aa]
  | .ldcBImm imm => [nibs .x0 .x7, imm]
  | .ldcBReg rs => [nibs .x0 .x3, nibs .x0 rs.nib]
  | .ldcWInd ers => [nibs .x0 .x1, nibs .x4 .x0, nibs .x6 .x9, nibs ers.nib0 .x0]
  | .ldcWD16 disp ers => [nibs .x0 .x1, nibs .x4 .x0, nibs .x6 .xF, nibs ers.nib0 .x0] ++ bytes16 disp
  | .ldcWD24 disp ers =>
    [nibs .x0 .x1, nibs .x4 .x0, nibs .x7 .x8, nibs ers.nib0 .x0, nibs .x6 .xB, nibs .x2 .x0, nibs .x0 .x0] ++ bytes24 disp
  | .ldcWInc ers => [nibs .x0 .x1, nibs .x4 .x0, nibs .x6 .xD, nibs ers.nib0 .x0]
  | .ldcWA16 aa => [nibs .x0 .x1, nibs .x4 .x0, nibs .x6 .xB, nibs .x0 .x0] ++ bytes16 aa
  | .ldcWA24 aa => [nibs .x0 .x1, nibs .x4 .x0, nibs .x6 .xB, nibs .x2 .x0, nibs .x0 .x0] ++ bytes24 aa
  | .stcBReg rd => [nibs .x0 .x2, nibs .x0 rd.nib]
  | .stcWInd erd => [nibs .x0 .x1, nibs .x4 .x0, nibs .x6 .x9, nibs erd.nib1 .x0]
  | .stcWD16 disp erd => [nibs .x0 .x1, nibs .x4 .x0, nibs .x6 .xF, nibs erd.nib1 .x0] ++ bytes16 disp
  | .stcWD24 disp erd =>
    [nibs .x0 .x1, nibs .x4 .x0, nibs .x7 .x8, nibs erd.nib0 .x0, nibs .x6 .xB, nibs .xA .x0, nibs .x0 .x0] ++ bytes24 disp
  | .stcWDec erd => [nibs .x0 .x1, nibs .x4 .x0, nibs .x6 .xD, nibs erd.nib1 .x0]
  | .stcWA16 aa => [nibs .x0 .x1, nibs .x4 .x0, nibs .x6 .xB, nibs .x8 .x0] ++ bytes16 aa
  | .stcWA24 aa => [nibs .x0 .x1, nibs .x4 .x0, nibs .x6 .xB, nibs .xA .x0, nibs .x0 .x0] ++ bytes24 aa
  | .andc imm => [nibs .x0 .x6, imm]
  | .orc imm => [nibs .x0 .x4, imm]
  | .xorc imm => [nibs .x0 .x5, imm]
  | .rts => [nibs .x5 .x4, nibs .x7 .x0]
  | .rte => [nibs .x5 .x6, nibs .x7 .x0]
  | .trapa0 => [nibs .x5 .x7, nibs .x0 .x0]
  | .trapa1 => [nibs .x5 .x7, nibs .x1 .x0]
  | .trapa2 => [nibs .x5 .x7, nibs .x2 .x0]
  | .trapa3 => [nibs .x5 .x7, nibs .x3 .x0]
  | .sleep => [nibs .x0 .x1, nibs .x8 .x0]
  | .nop => [nibs .x0 .x0, nibs .x0 .x0]
  | .eepmovB => [nibs .x7 .xB, nibs .x5 .xC, nibs .x5 .x9, nibs .x8 .xF]
  | .eepmovW => [nibs .x7 .xB, nibs .xD .x4, nibs .x5 .x9, nibs .x8 .xF]

/-- The length in bytes (R80, R84). -/
def Instr.length : Instr → Nat
  | .movBRR _ _ => 2
  | .movWRR _ _ => 2
  | .movLRR _ _ => 2
  | .movBImm _ _ => 2
  | .movWImm _ _ => 4
  | .movLImm _ _ => 6
  | .movBLdInd _ _ => 2
  | .movWLdInd _ _ => 2
  | .movLLdInd _ _ => 4
  | .movBLdD16 _ _ _ => 4
  | .movWLdD16 _ _ _ => 4
  | .movLLdD16 _ _ _ => 6
  | .movBLdD24 _ _ _ => 8
  | .movWLdD24 _ _ _ => 8
  | .movLLdD24 _ _ _ => 10
  | .movBLdInc _ _ => 2
  | .movWLdInc _ _ => 2
  | .movLLdInc _ _ => 4
  | .movBLdA8 _ _ => 2
  | .movBLdA16 _ _ => 4
  | .movWLdA16 _ _ => 4
  | .movLLdA16 _ _ => 6
  | .movBLdA24 _ _ => 6
  | .movWLdA24 _ _ => 6
  | .movLLdA24 _ _ => 8
  | .movBStInd _ _ => 2
  | .movWStInd _ _ => 2
  | .movLStInd _ _ => 4
  | .movBStD16 _ _ _ => 4
  | .movWStD16 _ _ _ => 4
  | .movLStD16 _ _ _ => 6
  | .movBStD24 _ _ _ => 8
  | .movWStD24 _ _ _ => 8
  | .movLStD24 _ _ _ => 10
  | .movBStDec _ _ => 2
  | .movWStDec _ _ => 2
  | .movLStDec _ _ => 4
  | .movBStA8 _ _ => 2
  | .movBStA16 _ _ => 4
  | .movWStA16 _ _ => 4
  | .movLStA16 _ _ => 6
  | .movBStA24 _ _ => 6
  | .movWStA24 _ _ => 6
  | .movLStA24 _ _ => 8
  | .movfpe _ _ => 4
  | .movtpe _ _ => 4
  | .popW _ => 2
  | .popL _ => 4
  | .pushW _ => 2
  | .pushL _ => 4
  | .addBImm _ _ => 2
  | .addBReg _ _ => 2
  | .addWImm _ _ => 4
  | .addWReg _ _ => 2
  | .addLImm _ _ => 6
  | .addLReg _ _ => 2
  | .subBReg _ _ => 2
  | .subWImm _ _ => 4
  | .subWReg _ _ => 2
  | .subLImm _ _ => 6
  | .subLReg _ _ => 2
  | .addxImm _ _ => 2
  | .addxReg _ _ => 2
  | .subxImm _ _ => 2
  | .subxReg _ _ => 2
  | .incB _ => 2
  | .incW1 _ => 2
  | .incW2 _ => 2
  | .incL1 _ => 2
  | .incL2 _ => 2
  | .decB _ => 2
  | .decW1 _ => 2
  | .decW2 _ => 2
  | .decL1 _ => 2
  | .decL2 _ => 2
  | .adds1 _ => 2
  | .adds2 _ => 2
  | .adds4 _ => 2
  | .subs1 _ => 2
  | .subs2 _ => 2
  | .subs4 _ => 2
  | .daa _ => 2
  | .das _ => 2
  | .mulxuB _ _ => 2
  | .mulxuW _ _ => 2
  | .mulxsB _ _ => 4
  | .mulxsW _ _ => 4
  | .divxuB _ _ => 2
  | .divxuW _ _ => 2
  | .divxsB _ _ => 4
  | .divxsW _ _ => 4
  | .cmpBImm _ _ => 2
  | .cmpBReg _ _ => 2
  | .cmpWImm _ _ => 4
  | .cmpWReg _ _ => 2
  | .cmpLImm _ _ => 6
  | .cmpLReg _ _ => 2
  | .negB _ => 2
  | .negW _ => 2
  | .negL _ => 2
  | .extsW _ => 2
  | .extsL _ => 2
  | .extuW _ => 2
  | .extuL _ => 2
  | .andBImm _ _ => 2
  | .andBReg _ _ => 2
  | .andWImm _ _ => 4
  | .andWReg _ _ => 2
  | .andLImm _ _ => 6
  | .andLReg _ _ => 4
  | .orBImm _ _ => 2
  | .orBReg _ _ => 2
  | .orWImm _ _ => 4
  | .orWReg _ _ => 2
  | .orLImm _ _ => 6
  | .orLReg _ _ => 4
  | .xorBImm _ _ => 2
  | .xorBReg _ _ => 2
  | .xorWImm _ _ => 4
  | .xorWReg _ _ => 2
  | .xorLImm _ _ => 6
  | .xorLReg _ _ => 4
  | .notB _ => 2
  | .notW _ => 2
  | .notL _ => 2
  | .shalB _ => 2
  | .shalW _ => 2
  | .shalL _ => 2
  | .sharB _ => 2
  | .sharW _ => 2
  | .sharL _ => 2
  | .shllB _ => 2
  | .shllW _ => 2
  | .shllL _ => 2
  | .shlrB _ => 2
  | .shlrW _ => 2
  | .shlrL _ => 2
  | .rotlB _ => 2
  | .rotlW _ => 2
  | .rotlL _ => 2
  | .rotrB _ => 2
  | .rotrW _ => 2
  | .rotrL _ => 2
  | .rotxlB _ => 2
  | .rotxlW _ => 2
  | .rotxlL _ => 2
  | .rotxrB _ => 2
  | .rotxrW _ => 2
  | .rotxrL _ => 2
  | .bsetImmReg _ _ => 2
  | .bsetImmInd _ _ => 4
  | .bsetImmAbs _ _ => 4
  | .bsetRegReg _ _ => 2
  | .bsetRegInd _ _ => 4
  | .bsetRegAbs _ _ => 4
  | .bclrImmReg _ _ => 2
  | .bclrImmInd _ _ => 4
  | .bclrImmAbs _ _ => 4
  | .bclrRegReg _ _ => 2
  | .bclrRegInd _ _ => 4
  | .bclrRegAbs _ _ => 4
  | .bnotImmReg _ _ => 2
  | .bnotImmInd _ _ => 4
  | .bnotImmAbs _ _ => 4
  | .bnotRegReg _ _ => 2
  | .bnotRegInd _ _ => 4
  | .bnotRegAbs _ _ => 4
  | .btstImmReg _ _ => 2
  | .btstImmInd _ _ => 4
  | .btstImmAbs _ _ => 4
  | .btstRegReg _ _ => 2
  | .btstRegInd _ _ => 4
  | .btstRegAbs _ _ => 4
  | .bandReg _ _ => 2
  | .bandInd _ _ => 4
  | .bandAbs _ _ => 4
  | .biandReg _ _ => 2
  | .biandInd _ _ => 4
  | .biandAbs _ _ => 4
  | .borReg _ _ => 2
  | .borInd _ _ => 4
  | .borAbs _ _ => 4
  | .biorReg _ _ => 2
  | .biorInd _ _ => 4
  | .biorAbs _ _ => 4
  | .bxorReg _ _ => 2
  | .bxorInd _ _ => 4
  | .bxorAbs _ _ => 4
  | .bixorReg _ _ => 2
  | .bixorInd _ _ => 4
  | .bixorAbs _ _ => 4
  | .bldReg _ _ => 2
  | .bldInd _ _ => 4
  | .bldAbs _ _ => 4
  | .bildReg _ _ => 2
  | .bildInd _ _ => 4
  | .bildAbs _ _ => 4
  | .bstReg _ _ => 2
  | .bstInd _ _ => 4
  | .bstAbs _ _ => 4
  | .bistReg _ _ => 2
  | .bistInd _ _ => 4
  | .bistAbs _ _ => 4
  | .bra (.d8 _) => 2
  | .bra (.d16 _) => 4
  | .brn (.d8 _) => 2
  | .brn (.d16 _) => 4
  | .bhi (.d8 _) => 2
  | .bhi (.d16 _) => 4
  | .bls (.d8 _) => 2
  | .bls (.d16 _) => 4
  | .bcc (.d8 _) => 2
  | .bcc (.d16 _) => 4
  | .bcs (.d8 _) => 2
  | .bcs (.d16 _) => 4
  | .bne (.d8 _) => 2
  | .bne (.d16 _) => 4
  | .beq (.d8 _) => 2
  | .beq (.d16 _) => 4
  | .bvc (.d8 _) => 2
  | .bvc (.d16 _) => 4
  | .bvs (.d8 _) => 2
  | .bvs (.d16 _) => 4
  | .bpl (.d8 _) => 2
  | .bpl (.d16 _) => 4
  | .bmi (.d8 _) => 2
  | .bmi (.d16 _) => 4
  | .bge (.d8 _) => 2
  | .bge (.d16 _) => 4
  | .blt (.d8 _) => 2
  | .blt (.d16 _) => 4
  | .bgt (.d8 _) => 2
  | .bgt (.d16 _) => 4
  | .ble (.d8 _) => 2
  | .ble (.d16 _) => 4
  | .jmpInd _ => 2
  | .jmpAbs _ => 4
  | .jmpMem _ => 2
  | .bsr (.d8 _) => 2
  | .bsr (.d16 _) => 4
  | .jsrInd _ => 2
  | .jsrAbs _ => 4
  | .jsrMem _ => 2
  | .ldcBImm _ => 2
  | .ldcBReg _ => 2
  | .ldcWInd _ => 4
  | .ldcWD16 _ _ => 6
  | .ldcWD24 _ _ => 10
  | .ldcWInc _ => 4
  | .ldcWA16 _ => 6
  | .ldcWA24 _ => 8
  | .stcBReg _ => 2
  | .stcWInd _ => 4
  | .stcWD16 _ _ => 6
  | .stcWD24 _ _ => 10
  | .stcWDec _ => 4
  | .stcWA16 _ => 6
  | .stcWA24 _ => 8
  | .andc _ => 2
  | .orc _ => 2
  | .xorc _ => 2
  | .rts => 2
  | .rte => 2
  | .trapa0 => 2
  | .trapa1 => 2
  | .trapa2 => 2
  | .trapa3 => 2
  | .sleep => 2
  | .nop => 2
  | .eepmovB => 4
  | .eepmovW => 4

/-! ## The numbering of spec/opcode_table.json (log 27) -/

/-- The `k` low bytes of a number, the most significant first. -/
def bytesBE : Nat → Nat → List Byte
  | 0, _ => []
  | k + 1, w => BitVec.ofNat 8 (w / 256 ^ k) :: bytesBE k w

/-- The `k` low 16-bit words of a number, the LEAST significant first, each with its high byte first. -/
def wordsLE : Nat → Nat → List Byte
  | 0, _ => []
  | k + 1, w => BitVec.ofNat 8 (w / 256) :: BitVec.ofNat 8 w :: wordsLE k (w / 65536)

/-- Ten bytes: those given, then zeros. -/
def padded (bs : List Byte) : List Byte := (bs ++ List.replicate 10 0#8).take 10

/-- The bytes begin with an instruction of at least `n` bytes. -/
def fills (n : Nat) (bs : List Byte) : Bool :=
  match decode bs with
  | some i => n ≤ i.length
  | none => false

/-- The ten bytes of an instruction whose bits are `w`. The table's own `match`, `mask` and `fixed` read the instruction
as one number, first byte on top; if `w` is no instruction of that many bits when read so, its words are read from
the least significant up, the first word first (log 27). -/
def tableBytes (nbits w : Nat) : List Byte :=
  let n := nbits / 8
  let be := padded (bytesBE n w)
  let le := padded (wordsLE (n / 2) w)
  if fills n be then be else if fills n le then le else be

/-- The instruction the decoder reads from an instruction whose bits are `w`, numbered as the table numbers them. -/
def decodeTableWord (nbits w : Nat) : Option Instr := decode (tableBytes nbits w)

end Sys2Proof
end

