-- ==== Sys2Proof/Config.lean ====
section
/-! DEFINITION. What an implementation fixes (the parameters of spec/92_eei_decisions.md, as data) and the free
values: constants without a body, one for each width, applied to the number of the draw (R16, U1 to U7). -/

namespace Sys2Proof

/-- What a peripheral module may react to: a data access of the CPU, with the address emitted and, for a write, the value
(R56, R57, R63; a long access is two word accesses, R58), or something from outside the CPU. -/
inductive Access where
  | readByte (a : Addr)
  | readWord (a : Addr)
  | writeByte (a : Addr) (v : Byte)
  | writeWord (a : Addr) (v : Word)
  /-- No access of the CPU: RES or STBY went low, software standby was entered, or another master had the bus (R377, R380,
  R382, R390). Log 36. -/
  | outside
  deriving DecidableEq, Repr

namespace Config

/-- A one-bit value the spec leaves unspecified: draw number `n` (R16 `unspecified_1`). Log 7. -/
opaque freeBit : Nat → Bool

/-- An unspecified byte: draw number `n` (R16 `unspecified_8`). Log 7. -/
opaque freeByte : Nat → Byte

/-- An unspecified word: draw number `n` (R187). Log 7. -/
opaque freeWord : Nat → Word

/-- An unspecified longword: draw number `n` (R44, R187). Log 7. -/
opaque freeLong : Nat → Long

/-- What a read of an address with nothing behind it gives, where the product does not say: an open value of the address
and of the data accesses made so far, so that two reads need not agree (R66, U12). Log 17. -/
opaque openBus : Nat → List Access → Byte

/-- What the on-chip peripheral module `id` answers at an address, after the data accesses made so far: the product's
behaviour, of which the spec says nothing (R10, R63). A read, a write, a reset of the module or another master's turn may
change what a later read gives. Log 17. -/
opaque device : Nat → Nat → List Access → Byte

/-- The vector number of reset (R356, D2). Log 6: PRESUMED. -/
def resetVector : Nat := 0

/-- What a byte of memory that nothing has written reads as. Log 4: DESIGN CHOICE, unsafe. -/
def unlisted : Byte := 0

end Config

/-- The operating mode, fixed by the mode pins (R8). -/
inductive Mode where
  | normal
  | advanced
  deriving DecidableEq, Repr

/-- What stands at a range of addresses that is not RAM (R10, R66). -/
inductive RegionKind where
  /-- Reads give the contents, writes are dropped. -/
  | rom
  /-- Nothing is there: writes are dropped; reads give `value`, or an unspecified byte. -/
  | vacant (value : Option Byte)
  /-- The registers of an on-chip peripheral module: reads give what module `id` answers (`Config.device`), writes go to it
  and not to memory. -/
  | device (id : Nat)
  deriving DecidableEq, Repr

/-- A range of addresses, both ends included. -/
structure Region where
  lo : Nat
  hi : Nat
  kind : RegionKind
  deriving DecidableEq, Repr

/-- The product's parameters (R8, R10, R11). No step changes them. -/
structure Platform where
  /-- `MODE` (R8). -/
  mode : Mode
  /-- `UI_IS_MASK` (R363). -/
  uiIsMask : Bool
  /-- Where UI is a mask bit: the pairs (UI, request tag) admitted while I = 1 (R363, log 19). -/
  uiAdmits : List (Bool × Nat)
  /-- `IrqPriority`: request tags, highest first (R364, log 18). -/
  irqPriority : List Nat
  /-- `SSBY` (R381, log 34). -/
  ssby : Bool
  /-- `HAS_ECLOCK` (R10). -/
  hasEclock : Bool
  /-- `NMI_VECTOR` (R356). -/
  nmiVector : Nat
  /-- `MemMap`: the ranges that are not RAM; the first that holds an address decides (R10, log 17). -/
  memMap : List Region
  deriving DecidableEq, Repr

end Sys2Proof
end

