-- ==== Sys2Proof/Machine/State.lean ====
section
/-! DEFINITION. The machine's state as plain data: every piece of state spec/10_state.md gives the CPU, the
memory, the product's parameters, and the events the outside world has in store. -/

namespace Sys2Proof.Machine

/-- The eight 32-bit general registers (R20). -/
structure Regs where
  er0 : Long
  er1 : Long
  er2 : Long
  er3 : Long
  er4 : Long
  er5 : Long
  er6 : Long
  er7 : Long
  deriving DecidableEq, Repr

/-- The condition code register, bit 7 to bit 0: I UI H U N Z V C (R28). Every one of the eight bits is
readable and writable and none is reserved, so the eight Booleans are the register (log 29). -/
structure Ccr where
  i : Bool
  ui : Bool
  h : Bool
  u : Bool
  n : Bool
  z : Bool
  v : Bool
  c : Bool
  deriving DecidableEq, Repr

/-- The processing states (R39, R375). -/
inductive PState where
  | programExecution
  /-- At rest this is reset exception handling about to run: every other exception entry is over within
  one step (log 30). -/
  | exceptionHandling
  | sleep
  | softwareStandby
  | hardwareStandby
  | resetState
  | busReleased
  deriving DecidableEq, Repr

/-- Memory in one canonical form (`Memory.wf`): `cells` lists the bytes that are not
`Config.unlisted`; `draws` lists the addresses that hold a free byte, with the number of the draw (log 8). -/
structure Memory where
  cells : List Host.Cell
  draws : List (Nat × Nat)
  deriving DecidableEq, Repr

/-- An interrupt request as the environment presents it (R362); `wakes` says whether its source ends
software standby (R383). -/
structure IrqRequest where
  nmi : Bool
  v : Nat
  tag : Nat
  wakes : Bool
  deriving DecidableEq, Repr

/-- What the outside world does at one boundary (R353, R376). -/
inductive Event where
  /-- The requests pending at the boundary; if an EEPMOV.W runs next, `cut` is the byte after which an
  NMI arrives (R342, D23). -/
  | requests (pending : List IrqRequest) (cut : Option Nat)
  /-- RES goes low; the bytes the aborted instruction may have written (R390, D22). -/
  | resLow (aborted : List Nat)
  /-- RES goes from low to high (R369). -/
  | resHigh
  /-- STBY goes low (R382). -/
  | stbyLow
  /-- STBY goes high, RES being held low (R376). -/
  | stbyHigh
  /-- Another master requests the bus (R377). -/
  | busRequest
  /-- The bus is given back; the bytes the other master wrote (R75, D21). -/
  | busReturn (writes : List Host.Cell)
  deriving DecidableEq, Repr

/-- The CPU and its memory. -/
structure State where
  /-- ER0 to ER7 (R20). -/
  er : Regs
  /-- The program counter (R25). -/
  pc : Addr
  /-- The condition code register (R28). -/
  ccr : Ccr
  /-- The processing state (R39). -/
  pstate : PState
  /-- `irq_inhibit` (R40). -/
  irqInhibit : Bool
  /-- The address space's contents (R50). -/
  mem : Memory
  /-- The product's parameters (R8, R10, R11). -/
  cfg : Platform
  /-- The events to come, one read at each boundary; none left means no request (R41, R362). -/
  inputs : List Event
  /-- The model's own: the cut the present boundary's event carries for EEPMOV.W (log 20). -/
  nmiCut : Option Nat
  /-- The model's own: how many free values have been drawn (log 7). -/
  draws : Nat
  /-- The model's own: the data accesses made so far, the last one first (R63), and the resets of the modules and the turns
  of another master among them (log 36). Fetches are none. -/
  trace : List Access
  deriving DecidableEq, Repr

/-- The CPU has no synchronous fault of any kind (R351), so no step ends in one. -/
inductive Fault where
  deriving DecidableEq, Repr

/-- The situations in which the spec has a model stop (R16 `refuse`; spec/93_implementation_defined.md
U4, U8, U9, U10), and the one for an instruction without a meaning. -/
inductive Refusal where
  /-- Raised by `exec` for a constructor that has no meaning. Safe. -/
  | notModelled (mnemonic : String)
  /-- Raised by `step` where the bytes at the pc are no instruction (R107, U4). Safe. -/
  | undefinedInstruction
  /-- Raised by a storing instruction whose store overlaps the two bytes at `next` (R73, U8). Safe. -/
  | storeIntoPrefetchedWord
  /-- Raised by a word-sized stack access, interrupt entry included, with an odd ER7 (R60, U9). Safe. -/
  | oddStackPointer
  /-- Raised by MOVFPE and MOVTPE on a product without an E clock (R148, R149, U10). Safe. -/
  | eclockNotAvailable
  deriving DecidableEq, Repr

/-- What an instruction's meaning, and a step, answer. -/
abbrev Result := Host.Outcome State Fault Refusal

/-- The product State.reset is of: the spec's defaults (92_eei_decisions.md); log 5, log 6. -/
def resetPlatform : Platform where
  mode := .advanced
  uiIsMask := false
  uiAdmits := []
  irqPriority := []
  ssby := false
  hasEclock := true
  nmiVector := 7
  memMap := []

/-- The machine right after reset exception handling (R391): I = 1, interrupts inhibited for one boundary, the
pc at the reset vector's contents, which are 0 in a memory with nothing listed. The general registers and
the other CCR bits are not initialised by the spec: log 1, log 2 (unsafe). -/
def State.reset : State where
  er := { er0 := 0, er1 := 0, er2 := 0, er3 := 0, er4 := 0, er5 := 0, er6 := 0, er7 := 0 }
  pc := 0
  ccr := { i := true, ui := false, h := false, u := false, n := false, z := false, v := false, c := false }
  pstate := .programExecution
  irqInhibit := true
  mem := { cells := [], draws := [] }
  cfg := resetPlatform
  inputs := []
  nmiCut := none
  draws := 0
  trace := []

end Sys2Proof.Machine
end

