-- ==== Sys2Proof/Machine/Memory.lean ====
section
/-! DEFINITION. Memory as two sorted lists (bytes, and free bytes), in one canonical form. -/

namespace Sys2Proof.Machine

/-- The entry at an address, if it is listed. -/
def lookupAt {α : Type} : List (Nat × α) → Nat → Option α
  | [], _ => none
  | (k, v) :: t, a => if k = a then some v else lookupAt t a

/-- The list with the entry at an address put in its place. -/
def insertAt {α : Type} (a : Nat) (v : α) : List (Nat × α) → List (Nat × α)
  | [] => [(a, v)]
  | (k, w) :: t =>
    if a < k then (a, v) :: (k, w) :: t
    else if a = k then (a, v) :: t
    else (k, w) :: insertAt a v t

/-- The list without its entry at an address. -/
def eraseAt {α : Type} (a : Nat) : List (Nat × α) → List (Nat × α)
  | [] => []
  | (k, w) :: t => if k = a then t else (k, w) :: eraseAt a t

/-- The byte at an address: the listed byte, else the free byte that was drawn for it, else
`Config.unlisted`. -/
def Memory.read (m : Memory) (a : Nat) : Byte :=
  match lookupAt m.cells a with
  | some b => b
  | none =>
    match lookupAt m.draws a with
    | some n => Config.freeByte n
    | none => Config.unlisted

/-- Writes a byte and keeps the canonical form. -/
def Memory.write (m : Memory) (a : Nat) (b : Byte) : Memory where
  cells := if b = Config.unlisted then eraseAt a m.cells else insertAt a b m.cells
  draws := eraseAt a m.draws

/-- Writes the free byte of draw number `n`. -/
def Memory.writeFree (m : Memory) (a : Nat) (n : Nat) : Memory where
  cells := eraseAt a m.cells
  draws := insertAt a n m.draws

/-- The canonical form: addresses strictly rising and inside the 24-bit space in both lists, no listed byte
equal to `Config.unlisted`, no address in both lists. -/
abbrev Memory.wf (m : Memory) : Prop :=
  (m.cells.map Prod.fst).Pairwise (· < ·) ∧
  (m.draws.map Prod.fst).Pairwise (· < ·) ∧
  (∀ e ∈ m.cells, e.1 < 2 ^ 24 ∧ e.2 ≠ Config.unlisted ∧ e.1 ∉ m.draws.map Prod.fst) ∧
  (∀ e ∈ m.draws, e.1 < 2 ^ 24)

end Sys2Proof.Machine
end

