-- ==== Sys2Proof/Machine/Ops.lean ====
section
/-! DEFINITION. The named operations over registers, memory, the stack and the free values, and the three
exceptions: entry (interrupts and TRAPA), return, and reset. -/

namespace Sys2Proof.Machine

/-! ## Sequencing -/

/-- Goes on with `f` where the first part answers a next state. -/
def andThen (o : Result) (f : State → Result) : Result :=
  match o with
  | .next s => f s
  | .fault r => .fault r
  | .refused r => .refused r

/-! ## General registers (R20) -/

/-- The 32-bit register a 3-bit field names (R88). -/
def Regs.get (r : Regs) : RegNum → Long
  | .r0 => r.er0
  | .r1 => r.er1
  | .r2 => r.er2
  | .r3 => r.er3
  | .r4 => r.er4
  | .r5 => r.er5
  | .r6 => r.er6
  | .r7 => r.er7

/-- The registers with one of the eight replaced. -/
def Regs.set (r : Regs) (n : RegNum) (v : Long) : Regs :=
  match n with
  | .r0 => { r with er0 := v }
  | .r1 => { r with er1 := v }
  | .r2 => { r with er2 := v }
  | .r3 => { r with er3 := v }
  | .r4 => { r with er4 := v }
  | .r5 => { r with er5 := v }
  | .r6 => { r with er6 := v }
  | .r7 => { r with er7 := v }

/-- `Reg32[n]`, ERn (R88). -/
def State.reg32 (s : State) (n : RegNum) : Long := s.er.get n

/-- `Reg32[n] <- v`. -/
def State.setReg32 (s : State) (n : RegNum) (v : Long) : State := { s with er := s.er.set n v }

/-- SP, which is ER7 (R23). -/
def State.sp (s : State) : Long := s.reg32 .r7

/-- SP is odd (R60). -/
def State.spOdd (s : State) : Bool := s.sp.getLsbD 0

/-! ## CCR as a byte (R28) -/

/-- The CCR's eight bits, I in bit 7 down to C in bit 0. -/
def Ccr.toByte (c : Ccr) : Byte :=
  BitVec.ofBool c.i ++ BitVec.ofBool c.ui ++ BitVec.ofBool c.h ++ BitVec.ofBool c.u ++
    BitVec.ofBool c.n ++ BitVec.ofBool c.z ++ BitVec.ofBool c.v ++ BitVec.ofBool c.c

/-- The CCR whose eight bits are those of a byte. -/
def Ccr.ofByte (b : Byte) : Ccr where
  i := b.getLsbD 7
  ui := b.getLsbD 6
  h := b.getLsbD 5
  u := b.getLsbD 4
  n := b.getLsbD 3
  z := b.getLsbD 2
  v := b.getLsbD 1
  c := b.getLsbD 0

/-- Combines two CCR values bit by bit. -/
def Ccr.zipWith (f : Bool → Bool → Bool) (c d : Ccr) : Ccr where
  i := f c.i d.i
  ui := f c.ui d.ui
  h := f c.h d.h
  u := f c.u d.u
  n := f c.n d.n
  z := f c.z d.z
  v := f c.v d.v
  c := f c.c d.c

/-- Writes the CCR. -/
def State.setCcr (s : State) (c : Ccr) : State := { s with ccr := c }

/-! ## Addresses and the program counter -/

/-- `AMASK` (R9). -/
def State.amask (s : State) : Addr :=
  match s.cfg.mode with
  | .normal => 0x00FFFF#24
  | .advanced => 0xFFFFFF#24

/-- The address a byte access emits (R9, R56). -/
def State.byteAddr (s : State) (a : Addr) : Addr := a &&& s.amask

/-- The address a word access emits, and what `pc <- t` stores: masked, bit 0 cleared (R57, R27). -/
def State.evenAddr (s : State) (a : Addr) : Addr := a &&& s.amask &&& 0xFFFFFE#24

/-- `pc <- t` (R27). -/
def State.setPc (s : State) (t : Addr) : State := { s with pc := s.evenAddr t }

/-- `next`: the address after an instruction of `len` bytes at the pc, modulo `2^AW` (R26, D9). -/
def State.nextPc (s : State) (len : Nat) : Addr := s.evenAddr (s.pc + BitVec.ofNat 24 len)

/-- `pc <- next`. -/
def State.advance (s : State) (len : Nat) : State := { s with pc := s.nextPc len }

/-! ## Free values (R16) -/

/-- Takes note that `k` free values, numbered from `s.draws`, have been drawn (log 7). -/
def State.drew (s : State) (k : Nat) : State := { s with draws := s.draws + k }

/-! ## Memory (R56 to R58) -/

/-- What stands at an address, where it is not RAM (R10): the first range that holds it. -/
def State.regionAt (s : State) (a : Nat) : Option RegionKind :=
  (s.cfg.memMap.find? (fun r => decide (r.lo ≤ a ∧ a ≤ r.hi))).map Region.kind

/-- The byte a read of an emitted address gives now, as MemMap has it (R10, R63, R66). -/
def State.peek (s : State) (a : Addr) : Byte :=
  match s.regionAt a.toNat with
  | some (.vacant (some b)) => b
  | some (.vacant none) => Config.openBus a.toNat s.trace
  | some (.device id) => Config.device id a.toNat s.trace
  | some .rom => s.mem.read a.toNat
  | none => s.mem.read a.toNat

/-- A write at an emitted address takes effect: the address is RAM. -/
def State.writable (s : State) (a : Addr) : Bool := (s.regionAt a.toNat).isNone

/-- What an emitted address reads as does not depend on the accesses made: neither a peripheral register nor an open
address. -/
def State.steady (s : State) (a : Addr) : Bool :=
  match s.regionAt a.toNat with
  | some (.device _) => false
  | some (.vacant none) => false
  | some (.vacant (some _)) => true
  | some .rom => true
  | none => true

/-- Stores a byte at an emitted address, where MemMap has RAM. -/
def State.poke (s : State) (a : Addr) (b : Byte) : State :=
  if s.writable a then { s with mem := s.mem.write a.toNat b } else s

/-- Stores a fresh free byte at an emitted address, where MemMap has RAM (R16 `unspecified_8`). -/
def State.pokeFree (s : State) (a : Addr) : State :=
  let t := s.drew 1
  if s.writable a then { t with mem := s.mem.writeFree a.toNat s.draws } else t

/-- Takes note of a data access (R63, log 36). -/
def State.noted (s : State) (x : Access) : State := { s with trace := x :: s.trace }

/-- What `MemRead(a, 1)` gives (R56). -/
def State.readByte (s : State) (a : Addr) : Byte := s.peek (s.byteAddr a)

/-- The state after `MemRead(a, 1)`. -/
def State.sawByte (s : State) (a : Addr) : State := s.noted (.readByte (s.byteAddr a))

/-- What `MemRead(a, 2)` gives: big-endian, bit 0 of the address cleared (R54, R57). -/
def State.readWord (s : State) (a : Addr) : Word :=
  s.peek (s.evenAddr a) ++ s.peek (s.evenAddr a + 1#24)

/-- The state after `MemRead(a, 2)`, which is one access (R57). -/
def State.sawWord (s : State) (a : Addr) : State := s.noted (.readWord (s.evenAddr a))

/-- What `MemRead(a, 4)` gives: the word at `a`, then the word at `a + 2` (R58). -/
def State.readLong (s : State) (a : Addr) : Long := s.readWord a ++ (s.sawWord a).readWord (a + 2#24)

/-- The state after `MemRead(a, 4)`: two word accesses, the lower address first (R58). -/
def State.sawLong (s : State) (a : Addr) : State := (s.sawWord a).sawWord (a + 2#24)

/-- `MemRead(a, 4)[23:0]`: of the long word at `a`, read whole, the first byte is ignored (R102, R300, R357). -/
def State.readLow24 (s : State) (a : Addr) : Addr :=
  s.peek (s.evenAddr a + 1#24) ++ (s.sawWord a).readWord (a + 2#24)

/-- `MemRead(a, 2)[15:8]`: of the word at `a`, read whole, the byte at the even address (R55 b, R316). -/
def State.readEven (s : State) (a : Addr) : Byte := s.peek (s.evenAddr a)

/-- `MemWrite(a, 1, v)` (R56). -/
def State.writeByte (s : State) (a : Addr) (v : Byte) : State :=
  (s.poke (s.byteAddr a) v).noted (.writeByte (s.byteAddr a) v)

/-- `MemWrite(a, 2, v)`, one access (R57). -/
def State.writeWord (s : State) (a : Addr) (v : Word) : State :=
  ((s.poke (s.evenAddr a) (v.extractLsb' 8 8)).poke (s.evenAddr a + 1#24) (v.extractLsb' 0 8)).noted
    (.writeWord (s.evenAddr a) v)

/-- `MemWrite(a, 4, v)`, the word at `a` first (R58). -/
def State.writeLong (s : State) (a : Addr) (v : Long) : State :=
  (s.writeWord a (v.extractLsb' 16 16)).writeWord (a + 2#24) (v.extractLsb' 0 16)

/-- `MemWrite(a, 4, v)`, the word at `a + 2` first: the order of PUSH.L (R153). -/
def State.writeLongLowFirst (s : State) (a : Addr) (v : Long) : State :=
  (s.writeWord (a + 2#24) (v.extractLsb' 0 16)).writeWord a (v.extractLsb' 16 16)

/-- `MemWrite(a, 2, b ++ X)` with `X` unspecified (R318, R360). -/
def State.writeEven (s : State) (a : Addr) (b : Byte) : State :=
  ((s.poke (s.evenAddr a) b).pokeFree (s.evenAddr a + 1#24)).noted
    (.writeWord (s.evenAddr a) (b ++ Config.freeByte s.draws))

/-- `MemWrite(a, 2, X ++ b)` with `X` unspecified (R295). -/
def State.writeOdd (s : State) (a : Addr) (b : Byte) : State :=
  ((s.pokeFree (s.evenAddr a)).poke (s.evenAddr a + 1#24) b).noted
    (.writeWord (s.evenAddr a) (Config.freeByte s.draws ++ b))

/-! ## Stores over the prefetched word (R73, U8) -/

/-- A store to the byte or word at `a`, by an instruction of `len` bytes at the pc, overlaps the two bytes
at `next`. -/
def State.hitsNext (s : State) (len : Nat) (a : Addr) : Bool := s.evenAddr a == s.nextPc len

/-- Refuses a store that overlaps the two bytes at `next` (R73, U8); `words` are addresses of the bytes or
words stored to. -/
def guardNext (len : Nat) (words : List Addr) (s : State) (k : State → Result) : Result :=
  if words.any (s.hitsNext len) then .refused .storeIntoPrefetchedWord else k s

/-- Refuses a word-sized stack access with an odd SP (R60, U9). -/
def guardSp (s : State) (k : State → Result) : Result :=
  if s.spOdd then .refused .oddStackPointer else k s

/-! ## Exceptions (R350 to R369) -/

/-- `VecAddr(v)` (R357). -/
def State.vecAddr (s : State) (v : Nat) : Addr :=
  match s.cfg.mode with
  | .normal => BitVec.ofNat 24 (2 * v)
  | .advanced => BitVec.ofNat 24 (4 * v)

/-- The address a table entry at `p` holds: 2 bytes in normal mode; in advanced mode 4 bytes, the first
ignored (R102, R357). -/
def State.readEntry (s : State) (p : Addr) : Addr :=
  match s.cfg.mode with
  | .normal => (s.readWord p).setWidth 24
  | .advanced => s.readLow24 p

/-- The state after a table entry at `p` is read: one word access in normal mode, two in advanced mode (R102, R357). -/
def State.sawEntry (s : State) (p : Addr) : State :=
  match s.cfg.mode with
  | .normal => s.sawWord p
  | .advanced => s.sawLong p

/-- Writes the exception frame `CCR, PC` at `a`, the low word first (R358 to R360, D24). -/
def State.writeFrame (s : State) (a : Addr) (ret : Addr) : State :=
  let t := s.writeWord (a + 2#24) (ret.extractLsb' 0 16)
  match s.cfg.mode with
  | .normal => t.writeEven a s.ccr.toByte
  | .advanced => t.writeWord a (s.ccr.toByte ++ ret.extractLsb' 16 8)

/-- The CCR after exception entry: I set; UI set when it is a mask bit (R361). -/
def State.maskedCcr (s : State) : Ccr := { s.ccr with i := true, ui := s.cfg.uiIsMask || s.ccr.ui }

/-- The state after entry to interrupt or TRAPA exception handling: vector number `v`, saved PC `ret` (R358). The frame
is written with the CCR of before; the vector is read after the frame is written. -/
def State.entered (s : State) (v : Nat) (ret : Addr) : State :=
  let t := s.setReg32 .r7 (s.sp - 4#32)
  let t := t.writeFrame ((s.sp - 4#32).setWidth 24) ret
  let t := t.setCcr s.maskedCcr
  { (t.sawEntry (t.vecAddr v)).setPc (t.readEntry (t.vecAddr v)) with pstate := .programExecution }

/-- Entry to interrupt and TRAPA exception handling (R358). SP must be even (R60). -/
def takeException (v : Nat) (ret : Addr) (s : State) : Result := guardSp s fun s => .next (s.entered v ret)

/-- The PC of the exception frame at SP: in normal mode the byte at SP + 1 is ignored (R311). -/
def State.framePc (s : State) : Addr :=
  match s.cfg.mode with
  | .normal => ((s.sawWord (s.sp.setWidth 24)).readWord (s.sp.setWidth 24 + 2#24)).setWidth 24
  | .advanced => s.readLow24 (s.sp.setWidth 24)

/-- Return from exception: CCR and PC from the frame at SP, two word accesses in both modes, then ER7 + 4 (R311, R367). -/
def returnFromException (s : State) : Result :=
  guardSp s fun s =>
    let c := Ccr.ofByte (s.readEven (s.sp.setWidth 24))
    .next ((((s.sawLong (s.sp.setWidth 24)).setReg32 .r7 (s.sp + 4#32)).setCcr c).setPc s.framePc)

/-- Every general register and every CCR bit becomes a fresh free value (U5, U13, D22). -/
def State.loseRegisters (s : State) : State :=
  let k := s.draws
  { s.drew 16 with
    er :=
      { er0 := Config.freeLong k, er1 := Config.freeLong (k + 1), er2 := Config.freeLong (k + 2),
        er3 := Config.freeLong (k + 3), er4 := Config.freeLong (k + 4), er5 := Config.freeLong (k + 5),
        er6 := Config.freeLong (k + 6), er7 := Config.freeLong (k + 7) }
    ccr :=
      { i := Config.freeBit (k + 8), ui := Config.freeBit (k + 9), h := Config.freeBit (k + 10),
        u := Config.freeBit (k + 11), n := Config.freeBit (k + 12), z := Config.freeBit (k + 13),
        v := Config.freeBit (k + 14), c := Config.freeBit (k + 15) } }

/-- I set, the other CCR bits as they are (R378). -/
def State.setI (s : State) : State := { s with ccr := { s.ccr with i := true } }

/-- Reset exception handling (R369, R390, R391): the pc from the reset vector, I set, interrupts inhibited for
one boundary, everything else in the CPU unspecified; nothing is pushed. -/
def resetException (s : State) : State :=
  let t := s.loseRegisters.setI
  let p := t.vecAddr Config.resetVector
  { (t.sawEntry p).setPc (t.readEntry p) with
    irqInhibit := true, pstate := .programExecution }

end Sys2Proof.Machine
end

