-- ==== Sys2Proof/Machine/Operands.lean ====
section
/-! DEFINITION. Operands: the 8- and 16-bit views of the registers (R21, R86, R87), the effective addresses
(R95 to R102), and the stepping of an address register (R97, R98). -/

namespace Sys2Proof.Machine

/-! ## Register views -/

/-- The byte a view names in ERn: RnL is bits 7..0, RnH bits 15..8 (R21). -/
def byteView (x : Long) (low : Bool) : Byte :=
  match low with
  | true => x.extractLsb' 0 8
  | false => x.extractLsb' 8 8

/-- ERn with one byte view replaced and every other bit kept (R21). -/
def setByteView (x : Long) (low : Bool) (b : Byte) : Long :=
  match low with
  | true => x.extractLsb' 8 24 ++ b
  | false => x.extractLsb' 16 16 ++ b ++ x.extractLsb' 0 8

/-- The word a view names in ERn: En is bits 31..16, Rn bits 15..0 (R21). -/
def wordView (x : Long) (ext : Bool) : Word :=
  match ext with
  | true => x.extractLsb' 16 16
  | false => x.extractLsb' 0 16

/-- ERn with one word view replaced and the other kept (R21). -/
def setWordView (x : Long) (ext : Bool) (w : Word) : Long :=
  match ext with
  | true => w ++ x.extractLsb' 0 16
  | false => x.extractLsb' 16 16 ++ w

/-- `Reg8[f]` (R86). -/
def State.reg8 (s : State) (r : Reg8) : Byte := byteView (s.reg32 r.n) r.low

/-- `Reg8[f] <- b`. -/
def State.setReg8 (s : State) (r : Reg8) (b : Byte) : State :=
  s.setReg32 r.n (setByteView (s.reg32 r.n) r.low b)

/-- `Reg16[f]` (R87). -/
def State.reg16 (s : State) (r : Reg16) : Word := wordView (s.reg32 r.n) r.ext

/-- `Reg16[f] <- w`. -/
def State.setReg16 (s : State) (r : Reg16) (w : Word) : State :=
  s.setReg32 r.n (setWordView (s.reg32 r.n) r.ext w)

/-! ## Effective addresses -/

/-- `@ERn` (R95). -/
def State.eaInd (s : State) (n : RegNum) : Addr := (s.reg32 n).setWidth 24

/-- `@(d:16,ERn)` (R96). -/
def State.eaDisp16 (s : State) (n : RegNum) (d : BitVec 16) : Addr :=
  (s.reg32 n + d.signExtend 32).setWidth 24

/-- `@(d:24,ERn)` (R96). -/
def State.eaDisp24 (s : State) (n : RegNum) (d : BitVec 24) : Addr :=
  (s.reg32 n + d.signExtend 32).setWidth 24

/-- `@aa:8` (R99). -/
def eaAbs8 (aa : BitVec 8) : Addr := 0xFFFF#16 ++ aa

/-- `@aa:16` (R99). -/
def eaAbs16 (aa : BitVec 16) : Addr := aa.signExtend 24

/-- The length of a Bcc or BSR: 2 bytes with d:8, 4 with d:16 (R290, R296). -/
def Disp.len : Disp → Nat
  | .d8 _ => 2
  | .d16 _ => 4

/-- The displacement sign-extended to 24 bits (R101). -/
def Disp.ext : Disp → Addr
  | .d8 d => d.signExtend 24
  | .d16 d => d.signExtend 24

/-- `@(d:8,PC)` and `@(d:16,PC)`: relative to `next` (R101). -/
def State.pcRel (s : State) (d : Disp) : Addr := s.nextPc (Disp.len d) + Disp.ext d

/-- `@@aa:8`: the branch address the table entry at `zext(aa)` holds (R102). -/
def State.memInd (s : State) (aa : BitVec 8) : Addr := s.readEntry (aa.setWidth 24)

/-- The state after the branch table's entry at `@@aa:8` is read. -/
def State.sawMemInd (s : State) (aa : BitVec 8) : State := s.sawEntry (aa.setWidth 24)

/-- `ER[n] <- ER[n] + k`, 32-bit in both modes (R97, R399). -/
def State.stepUp (s : State) (n : RegNum) (k : Long) : State := s.setReg32 n (s.reg32 n + k)

/-- `ER[n] <- ER[n] - k`, 32-bit in both modes (R98, R399). -/
def State.stepDown (s : State) (n : RegNum) (k : Long) : State := s.setReg32 n (s.reg32 n - k)

/-- Refuses a word or long access with `@ER7+` or `@-ER7` while SP is odd: PUSH, POP and the MOV forms that are
the same machine code (U9, R398). -/
def guardStackReg (n : RegNum) (s : State) (k : State → Result) : Result :=
  match n with
  | .r7 => guardSp s k
  | .r0 => k s
  | .r1 => k s
  | .r2 => k s
  | .r3 => k s
  | .r4 => k s
  | .r5 => k s
  | .r6 => k s

end Sys2Proof.Machine
end

