-- ==== Sys2Proof/Machine/Flags.lean ====
section
/-! DEFINITION. Every result-and-flag computation of the spec, as functions of the operands and the CCR of before,
at any width `w` (8, 16 or 32). -/

namespace Sys2Proof.Machine

/-! ## Addition and subtraction (R160) -/

/-- A w-bit result with the flags H, N, Z, V, C that go with it. -/
structure AluOut (w : Nat) where
  r : BitVec w
  h : Bool
  n : Bool
  z : Bool
  v : Bool
  c : Bool
  deriving DecidableEq, Repr

/-- `AddFlags_w(d, s, cin)` (R160). -/
def addFlags {w : Nat} (d s : BitVec w) (cin : Bool) : AluOut w :=
  let r := d + s + (BitVec.ofBool cin).setWidth w
  { r := r
    h := decide (2 ^ (w - 4) ≤ d.toNat % 2 ^ (w - 4) + s.toNat % 2 ^ (w - 4) + cin.toNat)
    n := r.msb
    z := r == 0#w
    v := (d.msb == s.msb) && (r.msb != d.msb)
    c := decide (2 ^ w ≤ d.toNat + s.toNat + cin.toNat) }

/-- `SubFlags_w(d, s, bin)` (R160). -/
def subFlags {w : Nat} (d s : BitVec w) (bin : Bool) : AluOut w :=
  let r := d - s - (BitVec.ofBool bin).setWidth w
  { r := r
    h := decide (d.toNat % 2 ^ (w - 4) < s.toNat % 2 ^ (w - 4) + bin.toNat)
    n := r.msb
    z := r == 0#w
    v := (d.msb != s.msb) && (r.msb != d.msb)
    c := decide (d.toNat < s.toNat + bin.toNat) }

/-- H, N, Z, V, C written as computed (R161 to R166, R188 to R193). -/
def Ccr.arith {w : Nat} (c : Ccr) (o : AluOut w) : Ccr :=
  { c with h := o.h, n := o.n, z := o.z, v := o.v, c := o.c }

/-- As `Ccr.arith`, but Z is only ever cleared (ADDX, SUBX: R167, R168). -/
def Ccr.arithX {w : Nat} (c : Ccr) (o : AluOut w) : Ccr :=
  { c with h := o.h, n := o.n, z := c.z && o.z, v := o.v, c := o.c }

/-! ## Moves and logic (R121, R220), extension (R194 to R197) -/

/-- N and Z of the datum, V cleared (R121, `LogicFlags_w` of R220). -/
def Ccr.nzv0 {w : Nat} (c : Ccr) (r : BitVec w) : Ccr := { c with n := r.msb, z := r == 0#w, v := false }

/-- N cleared, Z of the result, V cleared (EXTU: R196, R197). -/
def Ccr.n0zv0 {w : Nat} (c : Ccr) (r : BitVec w) : Ccr := { c with n := false, z := r == 0#w, v := false }

/-- N and Z of the result, nothing else (MULXS: R181, R182). -/
def Ccr.nz {w : Nat} (c : Ccr) (r : BitVec w) : Ccr := { c with n := r.msb, z := r == 0#w }

/-! ## INC and DEC (R169 to R174) -/

/-- INC: `r = d + k`; N, Z; V when a non-negative operand becomes negative; H and C kept. -/
def incFlags {w : Nat} (k d : BitVec w) (c : Ccr) : BitVec w × Ccr :=
  let r := d + k
  (r, { c with n := r.msb, z := r == 0#w, v := !d.msb && r.msb })

/-- DEC: `r = d - k`; N, Z; V when a negative operand becomes non-negative; H and C kept. -/
def decFlags {w : Nat} (k d : BitVec w) (c : Ccr) : BitVec w × Ccr :=
  let r := d - k
  (r, { c with n := r.msb, z := r == 0#w, v := d.msb && !r.msb })

/-! ## Results with their CCR, as functions of the destination and the CCR of before -/

/-- ADD (R161 to R163). -/
def addOp {w : Nat} (s d : BitVec w) (c : Ccr) : BitVec w × Ccr :=
  let o := addFlags d s false
  (o.r, c.arith o)

/-- SUB (R164 to R166); CMP keeps the flags only (R188 to R190). -/
def subOp {w : Nat} (s d : BitVec w) (c : Ccr) : BitVec w × Ccr :=
  let o := subFlags d s false
  (o.r, c.arith o)

/-- ADDX (R167). -/
def addxOp {w : Nat} (s d : BitVec w) (c : Ccr) : BitVec w × Ccr :=
  let o := addFlags d s c.c
  (o.r, c.arithX o)

/-- SUBX (R168). -/
def subxOp {w : Nat} (s d : BitVec w) (c : Ccr) : BitVec w × Ccr :=
  let o := subFlags d s c.c
  (o.r, c.arithX o)

/-- NEG: `0 - d` (R191 to R193). -/
def negOp {w : Nat} (d : BitVec w) (c : Ccr) : BitVec w × Ccr :=
  let o := subFlags 0#w d false
  (o.r, c.arith o)

/-- AND (R221 to R223). -/
def andOp {w : Nat} (s d : BitVec w) (c : Ccr) : BitVec w × Ccr := (d &&& s, c.nzv0 (d &&& s))

/-- OR (R224 to R226). -/
def orOp {w : Nat} (s d : BitVec w) (c : Ccr) : BitVec w × Ccr := (d ||| s, c.nzv0 (d ||| s))

/-- XOR (R227 to R229). -/
def xorOp {w : Nat} (s d : BitVec w) (c : Ccr) : BitVec w × Ccr := (d ^^^ s, c.nzv0 (d ^^^ s))

/-- NOT (R230 to R232). -/
def notOp {w : Nat} (d : BitVec w) (c : Ccr) : BitVec w × Ccr := (~~~d, c.nzv0 (~~~d))

/-- MOV: the source replaces the destination (R121). -/
def movOp {w : Nat} (s _d : BitVec w) (c : Ccr) : BitVec w × Ccr := (s, c.nzv0 s)

/-- EXTS.W (R194). -/
def extsWOp (d : Word) (c : Ccr) : Word × Ccr :=
  let r : Word := (d.extractLsb' 0 8).signExtend 16
  (r, c.nzv0 r)

/-- EXTS.L (R195). -/
def extsLOp (d : Long) (c : Ccr) : Long × Ccr :=
  let r : Long := (d.extractLsb' 0 16).signExtend 32
  (r, c.nzv0 r)

/-- EXTU.W (R196). -/
def extuWOp (d : Word) (c : Ccr) : Word × Ccr :=
  let r : Word := (d.extractLsb' 0 8).setWidth 16
  (r, c.n0zv0 r)

/-- EXTU.L (R197). -/
def extuLOp (d : Long) (c : Ccr) : Long × Ccr :=
  let r : Long := (d.extractLsb' 0 16).setWidth 32
  (r, c.n0zv0 r)

/-! ## Shifts and rotates by one bit (R240 to R248) -/

/-- The flags of a shift with result `r`: N, Z, V as given, C the bit shifted out (R240). -/
def Ccr.shifted {w : Nat} (c : Ccr) (r : BitVec w) (v carry : Bool) : Ccr :=
  { c with n := r.msb, z := r == 0#w, v := v, c := carry }

/-- Bit `w - 2`, the one below the MSB. -/
def belowMsb {w : Nat} (d : BitVec w) : Bool := d.getLsbD (w - 2)

/-- A bit as the LSB of a w-bit value. -/
def lowBit (w : Nat) (b : Bool) : BitVec w := (BitVec.ofBool b).setWidth w

/-- SHAL (R241). -/
def shalOp {w : Nat} (d : BitVec w) (c : Ccr) : BitVec w × Ccr :=
  (d <<< 1, c.shifted (d <<< 1) (xor d.msb (belowMsb d)) d.msb)

/-- SHAR (R242). -/
def sharOp {w : Nat} (d : BitVec w) (c : Ccr) : BitVec w × Ccr :=
  (d.sshiftRight 1, c.shifted (d.sshiftRight 1) false (d.getLsbD 0))

/-- SHLL (R243). -/
def shllOp {w : Nat} (d : BitVec w) (c : Ccr) : BitVec w × Ccr :=
  (d <<< 1, c.shifted (d <<< 1) false d.msb)

/-- SHLR: N always cleared, the result's MSB being 0 (R244). -/
def shlrOp {w : Nat} (d : BitVec w) (c : Ccr) : BitVec w × Ccr :=
  (d >>> 1, { c with n := false, z := d >>> 1 == 0#w, v := false, c := d.getLsbD 0 })

/-- ROTL (R245). -/
def rotlOp {w : Nat} (d : BitVec w) (c : Ccr) : BitVec w × Ccr :=
  let r := (d <<< 1) ||| lowBit w d.msb
  (r, c.shifted r false d.msb)

/-- ROTR (R246). -/
def rotrOp {w : Nat} (d : BitVec w) (c : Ccr) : BitVec w × Ccr :=
  let r := (d >>> 1) ||| (lowBit w (d.getLsbD 0) <<< (w - 1))
  (r, c.shifted r false (d.getLsbD 0))

/-- ROTXL: the old C enters bit 0 (R247). -/
def rotxlOp {w : Nat} (d : BitVec w) (c : Ccr) : BitVec w × Ccr :=
  let r := (d <<< 1) ||| lowBit w c.c
  (r, c.shifted r false d.msb)

/-- ROTXR: the old C enters the MSB (R248). -/
def rotxrOp {w : Nat} (d : BitVec w) (c : Ccr) : BitVec w × Ccr :=
  let r := (d >>> 1) ||| (lowBit w c.c <<< (w - 1))
  (r, c.shifted r false (d.getLsbD 0))

/-! ## Decimal adjustment (R177, R178) -/

/-- DAA's table: the value added and C after, for C, H and Rd before; none outside the table (R177). -/
def daaRow (c h : Bool) (d : Byte) : Option (Byte × Bool) :=
  let u := (d.extractLsb' 4 4).toNat
  let l := (d.extractLsb' 0 4).toNat
  match c, h with
  | false, false =>
    if u ≤ 9 ∧ l ≤ 9 then some (0x00#8, false)
    else if u ≤ 8 ∧ 10 ≤ l then some (0x06#8, false)
    else if 10 ≤ u ∧ l ≤ 9 then some (0x60#8, true)
    else if 9 ≤ u ∧ 10 ≤ l then some (0x66#8, true)
    else none
  | false, true =>
    if u ≤ 9 ∧ l ≤ 3 then some (0x06#8, false)
    else if 10 ≤ u ∧ l ≤ 3 then some (0x66#8, true)
    else none
  | true, false =>
    if u ≤ 2 ∧ l ≤ 9 then some (0x60#8, true)
    else if u ≤ 2 ∧ 10 ≤ l then some (0x66#8, true)
    else none
  | true, true => if u ≤ 3 ∧ l ≤ 3 then some (0x66#8, true) else none

/-- DAS's table: the value added; none outside the table (R178). -/
def dasRow (c h : Bool) (d : Byte) : Option Byte :=
  let u := (d.extractLsb' 4 4).toNat
  let l := (d.extractLsb' 0 4).toNat
  match c, h with
  | false, false => if u ≤ 9 ∧ l ≤ 9 then some 0x00#8 else none
  | false, true => if u ≤ 8 ∧ 6 ≤ l then some 0xFA#8 else none
  | true, false => if 7 ≤ u ∧ l ≤ 9 then some 0xA0#8 else none
  | true, true => if 6 ≤ u ∧ 6 ≤ l then some 0x9A#8 else none

/-- N, Z, V, C, H from five draws numbered from `k` (U1). -/
def Ccr.freeArith (c : Ccr) (k : Nat) : Ccr :=
  { c with
    n := Config.freeBit k, z := Config.freeBit (k + 1), v := Config.freeBit (k + 2),
    c := Config.freeBit (k + 3), h := Config.freeBit (k + 4) }

/-- N and Z of the result, C as given, H and V from two draws numbered from `k` (R177, R178, U2). -/
def Ccr.decimal (c : Ccr) (r : Byte) (carry : Bool) (k : Nat) : Ccr :=
  { c with
    n := r.msb, z := r == 0#8, c := carry, h := Config.freeBit k, v := Config.freeBit (k + 1) }

/-! ## Multiplication and division (R179 to R187) -/

/-- The unsigned product of two w-bit values, in `m` bits (R179, R180). -/
def mulU {w : Nat} (m : Nat) (a b : BitVec w) : BitVec m := BitVec.ofNat m (a.toNat * b.toNat)

/-- The signed product of two w-bit values, in `m` bits (R181, R182). -/
def mulS {w : Nat} (m : Nat) (a b : BitVec w) : BitVec m := BitVec.ofInt m (a.toInt * b.toInt)

/-- Quotient and remainder of an unsigned division; none when the divisor is zero or the quotient does not fit
(R183, R184, R187). -/
def divU {m w : Nat} (n : BitVec m) (v : BitVec w) : Option (BitVec w × BitVec w) :=
  if v = 0#w ∨ 2 ^ w ≤ n.toNat / v.toNat then none
  else some (BitVec.ofNat w (n.toNat / v.toNat), BitVec.ofNat w (n.toNat % v.toNat))

/-- Quotient, truncated toward zero, and remainder, with the dividend's sign, of a signed division; none when the
divisor is zero or the quotient does not fit (R185, R186, R187). -/
def divS {m w : Nat} (n : BitVec m) (v : BitVec w) : Option (BitVec w × BitVec w) :=
  let q := n.toInt.tdiv v.toInt
  if v = 0#w ∨ q < -(2 ^ (w - 1) : Int) ∨ (2 ^ (w - 1) : Int) ≤ q then none
  else some (BitVec.ofInt w q, BitVec.ofInt w (n.toInt - q * v.toInt))

/-- DIVXU: N is the divisor's MSB, Z says that it is zero (R183, R184). -/
def Ccr.divU {w : Nat} (c : Ccr) (v : BitVec w) : Ccr := { c with n := v.msb, z := v == 0#w }

/-- DIVXS: N says that the signs differ, Z that the divisor is zero (R185, R186). -/
def Ccr.divS {m w : Nat} (c : Ccr) (n : BitVec m) (v : BitVec w) : Ccr :=
  { c with n := xor n.msb v.msb, z := v == 0#w }

/-! ## Bit manipulation (R260 to R276) -/

/-- Bit `n` of a byte. -/
def bitOf (b : Byte) (n : BitVec 3) : Bool := b.getLsbD n.toNat

/-- The byte with bit `n` set to `x` and the others kept. -/
def withBit (b : Byte) (n : BitVec 3) (x : Bool) : Byte :=
  match x with
  | true => b ||| (1#8 <<< n.toNat)
  | false => b &&& ~~~(1#8 <<< n.toNat)

/-- The bit number in an 8-bit register: its low 3 bits (R90). -/
def bitNumber (b : Byte) : BitVec 3 := b.extractLsb' 0 3

/-- `Z <- z`. -/
def Ccr.setZ (c : Ccr) (z : Bool) : Ccr := { c with z := z }

/-- `C <- b`. -/
def Ccr.setC (c : Ccr) (b : Bool) : Ccr := { c with c := b }

/-! ## Branch conditions (R291) -/

/-- The sixteen conditions. -/
inductive Cond where
  | ra | rn | hi | ls | cc | cs | ne | eq | vc | vs | pl | mi | ge | lt | gt | le
  deriving DecidableEq, Repr

/-- `cond(cc)` on the CCR (R291). -/
def Cond.holds (k : Cond) (c : Ccr) : Bool :=
  match k with
  | .ra => true
  | .rn => false
  | .hi => !(c.c || c.z)
  | .ls => c.c || c.z
  | .cc => !c.c
  | .cs => c.c
  | .ne => !c.z
  | .eq => c.z
  | .vc => !c.v
  | .vs => c.v
  | .pl => !c.n
  | .mi => c.n
  | .ge => !(xor c.n c.v)
  | .lt => xor c.n c.v
  | .gt => !(c.z || xor c.n c.v)
  | .le => c.z || xor c.n c.v

end Sys2Proof.Machine
end

