-- ==== Sys2Proof/Machine/Shapes.lean ====
section
/-! DEFINITION. The shapes the instructions share: a register operation, a load, a store, a bit operation, a branch, a
call, a CCR write, a block copy. `len` is the instruction's length in bytes; every shape ends with the pc. -/

namespace Sys2Proof.Machine

/-! ## Register operations (spec/40 to 43) -/

/-- An operation on an 8-bit destination register and the CCR. -/
def alu8 (len : Nat) (rd : Reg8) (f : Byte → Ccr → Byte × Ccr) (s : State) : Result :=
  let o := f (s.reg8 rd) s.ccr
  .next (((s.setReg8 rd o.1).setCcr o.2).advance len)

/-- An operation on a 16-bit destination register and the CCR. -/
def alu16 (len : Nat) (rd : Reg16) (f : Word → Ccr → Word × Ccr) (s : State) : Result :=
  let o := f (s.reg16 rd) s.ccr
  .next (((s.setReg16 rd o.1).setCcr o.2).advance len)

/-- An operation on a 32-bit destination register and the CCR. -/
def alu32 (len : Nat) (erd : RegNum) (f : Long → Ccr → Long × Ccr) (s : State) : Result :=
  let o := f (s.reg32 erd) s.ccr
  .next (((s.setReg32 erd o.1).setCcr o.2).advance len)

/-- An instruction that writes flags only (CMP, BTST, the bit logic). -/
def flagsOnly (len : Nat) (c : Ccr) (s : State) : Result := .next ((s.setCcr c).advance len)

/-! ## Loads and stores (R128 to R153) -/

/-- `v = MemRead(ea, 1); Reg8[rd] <- v`, flags of R121. -/
def load8 (len : Nat) (ea : Addr) (rd : Reg8) (s : State) : Result :=
  let v := s.readByte ea
  .next ((((s.sawByte ea).setReg8 rd v).setCcr (s.ccr.nzv0 v)).advance len)

/-- `v = MemRead(ea, 2); Reg16[rd] <- v`, flags of R121. -/
def load16 (len : Nat) (ea : Addr) (rd : Reg16) (s : State) : Result :=
  let v := s.readWord ea
  .next ((((s.sawWord ea).setReg16 rd v).setCcr (s.ccr.nzv0 v)).advance len)

/-- `v = MemRead(ea, 4); Reg32[erd] <- v`, flags of R121. -/
def load32 (len : Nat) (ea : Addr) (erd : RegNum) (s : State) : Result :=
  let v := s.readLong ea
  .next ((((s.sawLong ea).setReg32 erd v).setCcr (s.ccr.nzv0 v)).advance len)

/-- `v = Reg8[rs]; MemWrite(ea, 1, v)`, flags of R121. -/
def store8 (len : Nat) (ea : Addr) (rs : Reg8) (s : State) : Result :=
  guardNext len [ea] s fun s =>
    let v := s.reg8 rs
    .next (((s.writeByte ea v).setCcr (s.ccr.nzv0 v)).advance len)

/-- `v = Reg16[rs]; MemWrite(ea, 2, v)`, flags of R121. -/
def store16 (len : Nat) (ea : Addr) (rs : Reg16) (s : State) : Result :=
  guardNext len [ea] s fun s =>
    let v := s.reg16 rs
    .next (((s.writeWord ea v).setCcr (s.ccr.nzv0 v)).advance len)

/-- `v = Reg32[ers]; MemWrite(ea, 4, v)`, flags of R121. -/
def store32 (len : Nat) (ea : Addr) (ers : RegNum) (s : State) : Result :=
  guardNext len [ea, ea + 2#24] s fun s =>
    let v := s.reg32 ers
    .next (((s.writeLong ea v).setCcr (s.ccr.nzv0 v)).advance len)

/-- As `store32` with the low-order word written first (PUSH.L, R153). -/
def store32LowFirst (len : Nat) (ea : Addr) (ers : RegNum) (s : State) : Result :=
  guardNext len [ea, ea + 2#24] s fun s =>
    let v := s.reg32 ers
    .next (((s.writeLongLowFirst ea v).setCcr (s.ccr.nzv0 v)).advance len)

/-- Refuses an E-clock transfer on a product without one (R148, R149, U10). -/
def guardEclock (s : State) (k : State → Result) : Result :=
  if s.cfg.hasEclock then k s else .refused .eclockNotAvailable

/-! ## Bit manipulation (R260 to R276) -/

/-- A write-group instruction on a register: no flag changes. -/
def bitWriteReg (rd : Reg8) (f : Byte → Byte) (s : State) : Result :=
  .next ((s.setReg8 rd (f (s.reg8 rd))).advance 2)

/-- A write-group instruction on memory: the whole byte is read once and written back once (R262, R63). -/
def bitWriteMem (ea : Addr) (f : Byte → Byte) (s : State) : Result :=
  guardNext 4 [ea] s fun s => .next (((s.sawByte ea).writeByte ea (f (s.readByte ea))).advance 4)

/-- A read-group instruction on a register. -/
def bitReadReg (rd : Reg8) (f : Byte → Ccr → Ccr) (s : State) : Result :=
  flagsOnly 2 (f (s.reg8 rd) s.ccr) s

/-- A read-group instruction on memory. -/
def bitReadMem (ea : Addr) (f : Byte → Ccr → Ccr) (s : State) : Result :=
  flagsOnly 4 (f (s.readByte ea) s.ccr) (s.sawByte ea)

/-- BSET (R263). -/
def bsetOp (n : BitVec 3) (b : Byte) : Byte := withBit b n true

/-- BCLR (R264). -/
def bclrOp (n : BitVec 3) (b : Byte) : Byte := withBit b n false

/-- BNOT (R265). -/
def bnotOp (n : BitVec 3) (b : Byte) : Byte := withBit b n (!bitOf b n)

/-- BTST: Z is the complement of the bit (R266). -/
def btstOp (n : BitVec 3) (b : Byte) (c : Ccr) : Ccr := c.setZ (!bitOf b n)

/-- BAND (R267). -/
def bandOp (n : BitVec 3) (b : Byte) (c : Ccr) : Ccr := c.setC (c.c && bitOf b n)

/-- BIAND (R268). -/
def biandOp (n : BitVec 3) (b : Byte) (c : Ccr) : Ccr := c.setC (c.c && !bitOf b n)

/-- BOR (R269). -/
def borOp (n : BitVec 3) (b : Byte) (c : Ccr) : Ccr := c.setC (c.c || bitOf b n)

/-- BIOR (R270). -/
def biorOp (n : BitVec 3) (b : Byte) (c : Ccr) : Ccr := c.setC (c.c || !bitOf b n)

/-- BXOR (R271). -/
def bxorOp (n : BitVec 3) (b : Byte) (c : Ccr) : Ccr := c.setC (xor c.c (bitOf b n))

/-- BIXOR (R272). -/
def bixorOp (n : BitVec 3) (b : Byte) (c : Ccr) : Ccr := c.setC (xor c.c (!bitOf b n))

/-- BLD (R273). -/
def bldOp (n : BitVec 3) (b : Byte) (c : Ccr) : Ccr := c.setC (bitOf b n)

/-- BILD (R274). -/
def bildOp (n : BitVec 3) (b : Byte) (c : Ccr) : Ccr := c.setC (!bitOf b n)

/-! ## Branches and calls (R290 to R300) -/

/-- Bcc, d:8 or d:16 (R290). -/
def branch (k : Cond) (d : Disp) (s : State) : Result :=
  if k.holds s.ccr then .next (s.setPc (s.pcRel d)) else .next (s.advance (Disp.len d))

/-- Pushes `next` and goes on at `target`, which the caller has computed from the state of before (R295, D5,
D25). Normal mode: a 2-byte frame. Advanced mode: a 4-byte frame whose first byte is unspecified, the low
word written first. -/
def callTo (len : Nat) (target : Addr) (s : State) : Result :=
  guardSp s fun s =>
    let ret := s.nextPc len
    match s.cfg.mode with
    | .normal =>
      let a : Addr := (s.sp - 2#32).setWidth 24
      guardNext len [a] s fun s =>
        .next (((s.setReg32 .r7 (s.sp - 2#32)).writeWord a (ret.extractLsb' 0 16)).setPc target)
    | .advanced =>
      let a : Addr := (s.sp - 4#32).setWidth 24
      guardNext len [a, a + 2#24] s fun s =>
        let t := (s.setReg32 .r7 (s.sp - 4#32)).writeWord (a + 2#24) (ret.extractLsb' 0 16)
        .next ((t.writeOdd a (ret.extractLsb' 16 8)).setPc target)

/-- Pops the return address (R300). -/
def returnFromCall (s : State) : Result :=
  guardSp s fun s =>
    let a : Addr := s.sp.setWidth 24
    match s.cfg.mode with
    | .normal => .next (((s.sawWord a).setReg32 .r7 (s.sp + 2#32)).setPc ((s.readWord a).setWidth 24))
    | .advanced => .next (((s.sawLong a).setReg32 .r7 (s.sp + 4#32)).setPc (s.readLow24 a))

/-! ## System control (R311 to R323) -/

/-- TRAPA: its stack writes are stores of an instruction (U8), then exception entry with vector `8 + x` and
saved PC `next` (R312, R358). -/
def trap (x : BitVec 2) (s : State) : Result :=
  guardSp s fun s =>
    let a : Addr := (s.sp - 4#32).setWidth 24
    guardNext 2 [a, a + 2#24] s fun s => takeException (8 + x.toNat) (s.nextPc 2) s

/-- Writes the whole CCR and inhibits interrupt detection at the next boundary (LDC, ANDC, ORC, XORC; R323). -/
def writeCcr (len : Nat) (c : Ccr) (s : State) : Result :=
  .next ({ s.setCcr c with irqInhibit := true }.advance len)

/-- `CCR <- MemRead(ea, 2)[15:8]` (R316). -/
def loadCcr (len : Nat) (ea : Addr) (s : State) : Result :=
  writeCcr len (Ccr.ofByte (s.readEven ea)) (s.sawWord ea)

/-- `MemWrite(ea, 2, CCR ++ X)` with `X` unspecified (R318, D12). -/
def storeCcr (len : Nat) (ea : Addr) (s : State) : Result :=
  guardNext len [ea] s fun s => .next ((s.writeEven ea s.ccr.toByte).advance len)

/-! ## Block transfer (R340 to R344) -/

/-- R4L, the count of EEPMOV.B. -/
def r4l : Reg8 := { low := true, n := .r4 }

/-- R4, the count of EEPMOV.W. -/
def r4 : Reg16 := { ext := false, n := .r4 }

/-- `R4L <- R4L - 1`. -/
def countDownB (s : State) : State := s.setReg8 r4l (s.reg8 r4l - 1#8)

/-- `R4 <- R4 - 1`. -/
def countDownW (s : State) : State := s.setReg16 r4 (s.reg16 r4 - 1#16)

/-- One turn of EEPMOV's loop: a byte from @ER5+ to @ER6+, the count down by one (R341). -/
def copyByte (countDown : State → State) (s : State) : Result :=
  guardNext 4 [s.eaInd .r6] s fun s =>
    let b := s.readByte (s.eaInd .r5)
    let t := (s.sawByte (s.eaInd .r5)).writeByte (s.eaInd .r6) b
    .next (countDown ((t.stepUp .r5 1#32).stepUp .r6 1#32))

/-- `k` turns of EEPMOV's loop. -/
def copyBytes (countDown : State → State) : Nat → State → Result
  | 0, s => .next s
  | k + 1, s => andThen (copyByte countDown s) (copyBytes countDown k)

/-- The two dummy reads EEPMOV begins with, at ER5 and at ER6, also where the count is 0 (R341). -/
def State.sawEnds (s : State) : State := (s.sawByte (s.eaInd .r5)).sawByte (s.eaInd .r6)

/-- EEPMOV.W: an NMI that arrives after byte `k`, 1 ≤ k ≤ n, ends the instruction there, with the pc at `next`, and
is taken (R342, D23, log 20); else all `n` bytes are copied. -/
def blockMoveW (s : State) : Result :=
  let n := (s.reg16 r4).toNat
  let whole := andThen (copyBytes countDownW n s.sawEnds) fun t => .next (t.advance 4)
  match s.nmiCut with
  | none => whole
  | some k =>
    if 1 ≤ k ∧ k ≤ n then
      andThen (copyBytes countDownW k s.sawEnds) fun t =>
        takeException t.cfg.nmiVector (t.nextPc 4) (t.advance 4)
    else whole

end Sys2Proof.Machine
end

