-- ==== Sys2Proof/Machine/Arithmetic.lean ====
section
/-! DEFINITION. The arithmetic instructions (spec/41_arithmetic.md). -/

namespace Sys2Proof.Machine

/-- ADD.B #xx:8,Rd (R161). -/
def execAddBImm (imm : BitVec 8) (rd : Reg8) (s : State) : Result := alu8 2 rd (addOp imm) s

/-- ADD.B Rs,Rd (R161). -/
def execAddBReg (rs : Reg8) (rd : Reg8) (s : State) : Result := alu8 2 rd (addOp (s.reg8 rs)) s

/-- ADD.W #xx:16,Rd (R162). -/
def execAddWImm (imm : BitVec 16) (rd : Reg16) (s : State) : Result := alu16 4 rd (addOp imm) s

/-- ADD.W Rs,Rd (R162). -/
def execAddWReg (rs : Reg16) (rd : Reg16) (s : State) : Result := alu16 2 rd (addOp (s.reg16 rs)) s

/-- ADD.L #xx:32,ERd (R163). -/
def execAddLImm (imm : BitVec 32) (erd : RegNum) (s : State) : Result := alu32 6 erd (addOp imm) s

/-- ADD.L ERs,ERd (R163). -/
def execAddLReg (ers : RegNum) (erd : RegNum) (s : State) : Result := alu32 2 erd (addOp (s.reg32 ers)) s

/-- SUB.B Rs,Rd (R164). -/
def execSubBReg (rs : Reg8) (rd : Reg8) (s : State) : Result := alu8 2 rd (subOp (s.reg8 rs)) s

/-- SUB.W #xx:16,Rd (R165). -/
def execSubWImm (imm : BitVec 16) (rd : Reg16) (s : State) : Result := alu16 4 rd (subOp imm) s

/-- SUB.W Rs,Rd (R165). -/
def execSubWReg (rs : Reg16) (rd : Reg16) (s : State) : Result := alu16 2 rd (subOp (s.reg16 rs)) s

/-- SUB.L #xx:32,ERd (R166). -/
def execSubLImm (imm : BitVec 32) (erd : RegNum) (s : State) : Result := alu32 6 erd (subOp imm) s

/-- SUB.L ERs,ERd (R166). -/
def execSubLReg (ers : RegNum) (erd : RegNum) (s : State) : Result := alu32 2 erd (subOp (s.reg32 ers)) s

/-- ADDX #xx:8,Rd (R167). -/
def execAddxImm (imm : BitVec 8) (rd : Reg8) (s : State) : Result := alu8 2 rd (addxOp imm) s

/-- ADDX Rs,Rd (R167). -/
def execAddxReg (rs : Reg8) (rd : Reg8) (s : State) : Result := alu8 2 rd (addxOp (s.reg8 rs)) s

/-- SUBX #xx:8,Rd (R168). -/
def execSubxImm (imm : BitVec 8) (rd : Reg8) (s : State) : Result := alu8 2 rd (subxOp imm) s

/-- SUBX Rs,Rd (R168). -/
def execSubxReg (rs : Reg8) (rd : Reg8) (s : State) : Result := alu8 2 rd (subxOp (s.reg8 rs)) s

/-- INC.B Rd (R169). -/
def execIncB (rd : Reg8) (s : State) : Result := alu8 2 rd (incFlags 1#8) s

/-- INC.W #1,Rd (R170). -/
def execIncW1 (rd : Reg16) (s : State) : Result := alu16 2 rd (incFlags 1#16) s

/-- INC.W #2,Rd (R170). -/
def execIncW2 (rd : Reg16) (s : State) : Result := alu16 2 rd (incFlags 2#16) s

/-- INC.L #1,ERd (R171). -/
def execIncL1 (erd : RegNum) (s : State) : Result := alu32 2 erd (incFlags 1#32) s

/-- INC.L #2,ERd (R171). -/
def execIncL2 (erd : RegNum) (s : State) : Result := alu32 2 erd (incFlags 2#32) s

/-- DEC.B Rd (R172). -/
def execDecB (rd : Reg8) (s : State) : Result := alu8 2 rd (decFlags 1#8) s

/-- DEC.W #1,Rd (R173). -/
def execDecW1 (rd : Reg16) (s : State) : Result := alu16 2 rd (decFlags 1#16) s

/-- DEC.W #2,Rd (R173). -/
def execDecW2 (rd : Reg16) (s : State) : Result := alu16 2 rd (decFlags 2#16) s

/-- DEC.L #1,ERd (R174). -/
def execDecL1 (erd : RegNum) (s : State) : Result := alu32 2 erd (decFlags 1#32) s

/-- DEC.L #2,ERd (R174). -/
def execDecL2 (erd : RegNum) (s : State) : Result := alu32 2 erd (decFlags 2#32) s

/-- ADDS #1,ERd (R175). -/
def execAdds1 (erd : RegNum) (s : State) : Result := .next ((s.stepUp erd 1#32).advance 2)

/-- ADDS #2,ERd (R175). -/
def execAdds2 (erd : RegNum) (s : State) : Result := .next ((s.stepUp erd 2#32).advance 2)

/-- ADDS #4,ERd (R175). -/
def execAdds4 (erd : RegNum) (s : State) : Result := .next ((s.stepUp erd 4#32).advance 2)

/-- SUBS #1,ERd (R176). -/
def execSubs1 (erd : RegNum) (s : State) : Result := .next ((s.stepDown erd 1#32).advance 2)

/-- SUBS #2,ERd (R176). -/
def execSubs2 (erd : RegNum) (s : State) : Result := .next ((s.stepDown erd 2#32).advance 2)

/-- SUBS #4,ERd (R176). -/
def execSubs4 (erd : RegNum) (s : State) : Result := .next ((s.stepDown erd 4#32).advance 2)

/-- DAA Rd (R177). Outside the table Rd and the five flags are free; inside it H and V are (D13, U1, U2; log 14). -/
def execDaa (rd : Reg8) (s : State) : Result :=
  let d := s.reg8 rd
  let k := s.draws
  match daaRow s.ccr.c s.ccr.h d with
  | some (x, carry) =>
    .next ((((s.drew 2).setReg8 rd (d + x)).setCcr (s.ccr.decimal (d + x) carry k)).advance 2)
  | none =>
    .next ((((s.drew 6).setReg8 rd (Config.freeByte k)).setCcr (s.ccr.freeArith (k + 1))).advance 2)

/-- DAS Rd (R178). Outside the table Rd and the five flags are free; inside it H and V are (D13, U1, U2; log 14). -/
def execDas (rd : Reg8) (s : State) : Result :=
  let d := s.reg8 rd
  let k := s.draws
  match dasRow s.ccr.c s.ccr.h d with
  | some x =>
    .next ((((s.drew 2).setReg8 rd (d + x)).setCcr (s.ccr.decimal (d + x) s.ccr.c k)).advance 2)
  | none =>
    .next ((((s.drew 6).setReg8 rd (Config.freeByte k)).setCcr (s.ccr.freeArith (k + 1))).advance 2)

/-- MULXU.B Rs,Rd (R179). -/
def execMulxuB (rs : Reg8) (rd : Reg16) (s : State) : Result :=
  let p := mulU 16 ((s.reg16 rd).extractLsb' 0 8) (s.reg8 rs)
  .next ((s.setReg16 rd p).advance 2)

/-- MULXU.W Rs,ERd (R180). -/
def execMulxuW (rs : Reg16) (erd : RegNum) (s : State) : Result :=
  let p := mulU 32 ((s.reg32 erd).extractLsb' 0 16) (s.reg16 rs)
  .next ((s.setReg32 erd p).advance 2)

/-- MULXS.B Rs,Rd (R181). -/
def execMulxsB (rs : Reg8) (rd : Reg16) (s : State) : Result :=
  let p := mulS 16 ((s.reg16 rd).extractLsb' 0 8) (s.reg8 rs)
  .next (((s.setReg16 rd p).setCcr (s.ccr.nz p)).advance 4)

/-- MULXS.W Rs,ERd (R182). -/
def execMulxsW (rs : Reg16) (erd : RegNum) (s : State) : Result :=
  let p := mulS 32 ((s.reg32 erd).extractLsb' 0 16) (s.reg16 rs)
  .next (((s.setReg32 erd p).setCcr (s.ccr.nz p)).advance 4)

/-- DIVXU.B Rs,Rd (R183). A zero divisor or a quotient that does not fit leaves Rd free (R187, U3; log 15). -/
def execDivxuB (rs : Reg8) (rd : Reg16) (s : State) : Result :=
  let n := s.reg16 rd
  let v := s.reg8 rs
  let t := s.setCcr (s.ccr.divU v)
  match divU n v with
  | some (q, r) => .next ((t.setReg16 rd (r ++ q)).advance 2)
  | none => .next (((t.drew 1).setReg16 rd (Config.freeWord s.draws)).advance 2)

/-- DIVXU.W Rs,ERd (R184). A zero divisor or a quotient that does not fit leaves ERd free (R187, U3; log 15). -/
def execDivxuW (rs : Reg16) (erd : RegNum) (s : State) : Result :=
  let n := s.reg32 erd
  let v := s.reg16 rs
  let t := s.setCcr (s.ccr.divU v)
  match divU n v with
  | some (q, r) => .next ((t.setReg32 erd (r ++ q)).advance 2)
  | none => .next (((t.drew 1).setReg32 erd (Config.freeLong s.draws)).advance 2)

/-- DIVXS.B Rs,Rd (R185). A zero divisor or a quotient that does not fit leaves Rd free (R187, U3; log 15). -/
def execDivxsB (rs : Reg8) (rd : Reg16) (s : State) : Result :=
  let n := s.reg16 rd
  let v := s.reg8 rs
  let t := s.setCcr (s.ccr.divS n v)
  match divS n v with
  | some (q, r) => .next ((t.setReg16 rd (r ++ q)).advance 4)
  | none => .next (((t.drew 1).setReg16 rd (Config.freeWord s.draws)).advance 4)

/-- DIVXS.W Rs,ERd (R186). A zero divisor or a quotient that does not fit leaves ERd free (R187, U3; log 15). -/
def execDivxsW (rs : Reg16) (erd : RegNum) (s : State) : Result :=
  let n := s.reg32 erd
  let v := s.reg16 rs
  let t := s.setCcr (s.ccr.divS n v)
  match divS n v with
  | some (q, r) => .next ((t.setReg32 erd (r ++ q)).advance 4)
  | none => .next (((t.drew 1).setReg32 erd (Config.freeLong s.draws)).advance 4)

/-- CMP.B #xx:8,Rd (R188). -/
def execCmpBImm (imm : BitVec 8) (rd : Reg8) (s : State) : Result :=
  flagsOnly 2 (subOp imm (s.reg8 rd) s.ccr).2 s

/-- CMP.B Rs,Rd (R188). -/
def execCmpBReg (rs : Reg8) (rd : Reg8) (s : State) : Result :=
  flagsOnly 2 (subOp (s.reg8 rs) (s.reg8 rd) s.ccr).2 s

/-- CMP.W #xx:16,Rd (R189). -/
def execCmpWImm (imm : BitVec 16) (rd : Reg16) (s : State) : Result :=
  flagsOnly 4 (subOp imm (s.reg16 rd) s.ccr).2 s

/-- CMP.W Rs,Rd (R189). -/
def execCmpWReg (rs : Reg16) (rd : Reg16) (s : State) : Result :=
  flagsOnly 2 (subOp (s.reg16 rs) (s.reg16 rd) s.ccr).2 s

/-- CMP.L #xx:32,ERd (R190). -/
def execCmpLImm (imm : BitVec 32) (erd : RegNum) (s : State) : Result :=
  flagsOnly 6 (subOp imm (s.reg32 erd) s.ccr).2 s

/-- CMP.L ERs,ERd (R190). -/
def execCmpLReg (ers : RegNum) (erd : RegNum) (s : State) : Result :=
  flagsOnly 2 (subOp (s.reg32 ers) (s.reg32 erd) s.ccr).2 s

/-- NEG.B Rd (R191). -/
def execNegB (rd : Reg8) (s : State) : Result := alu8 2 rd negOp s

/-- NEG.W Rd (R192). -/
def execNegW (rd : Reg16) (s : State) : Result := alu16 2 rd negOp s

/-- NEG.L ERd (R193). -/
def execNegL (erd : RegNum) (s : State) : Result := alu32 2 erd negOp s

/-- EXTS.W Rd (R194). -/
def execExtsW (rd : Reg16) (s : State) : Result := alu16 2 rd extsWOp s

/-- EXTS.L ERd (R195). -/
def execExtsL (erd : RegNum) (s : State) : Result := alu32 2 erd extsLOp s

/-- EXTU.W Rd (R196). -/
def execExtuW (rd : Reg16) (s : State) : Result := alu16 2 rd extuWOp s

/-- EXTU.L ERd (R197). -/
def execExtuL (erd : RegNum) (s : State) : Result := alu32 2 erd extuLOp s

end Sys2Proof.Machine
end

