-- ==== Sys2Proof/Machine/BitManipulation.lean ====
section
/-! DEFINITION. The bit-manipulation instructions (spec/44_bit_manipulation.md). -/

namespace Sys2Proof.Machine

/-- BSET #xx:3,Rd (R263). -/
def execBsetImmReg (imm : BitVec 3) (rd : Reg8) (s : State) : Result := bitWriteReg rd (bsetOp imm) s

/-- BSET #xx:3,@ERd (R263). -/
def execBsetImmInd (imm : BitVec 3) (erd : RegNum) (s : State) : Result :=
  bitWriteMem (s.eaInd erd) (bsetOp imm) s

/-- BSET #xx:3,@aa:8 (R263). -/
def execBsetImmAbs (imm : BitVec 3) (aa : BitVec 8) (s : State) : Result :=
  bitWriteMem (eaAbs8 aa) (bsetOp imm) s

/-- BSET Rn,Rd (R263). -/
def execBsetRegReg (rn : Reg8) (rd : Reg8) (s : State) : Result :=
  bitWriteReg rd (bsetOp (bitNumber (s.reg8 rn))) s

/-- BSET Rn,@ERd (R263). -/
def execBsetRegInd (rn : Reg8) (erd : RegNum) (s : State) : Result :=
  bitWriteMem (s.eaInd erd) (bsetOp (bitNumber (s.reg8 rn))) s

/-- BSET Rn,@aa:8 (R263). -/
def execBsetRegAbs (rn : Reg8) (aa : BitVec 8) (s : State) : Result :=
  bitWriteMem (eaAbs8 aa) (bsetOp (bitNumber (s.reg8 rn))) s

/-- BCLR #xx:3,Rd (R264). -/
def execBclrImmReg (imm : BitVec 3) (rd : Reg8) (s : State) : Result := bitWriteReg rd (bclrOp imm) s

/-- BCLR #xx:3,@ERd (R264). -/
def execBclrImmInd (imm : BitVec 3) (erd : RegNum) (s : State) : Result :=
  bitWriteMem (s.eaInd erd) (bclrOp imm) s

/-- BCLR #xx:3,@aa:8 (R264). -/
def execBclrImmAbs (imm : BitVec 3) (aa : BitVec 8) (s : State) : Result :=
  bitWriteMem (eaAbs8 aa) (bclrOp imm) s

/-- BCLR Rn,Rd (R264). -/
def execBclrRegReg (rn : Reg8) (rd : Reg8) (s : State) : Result :=
  bitWriteReg rd (bclrOp (bitNumber (s.reg8 rn))) s

/-- BCLR Rn,@ERd (R264). -/
def execBclrRegInd (rn : Reg8) (erd : RegNum) (s : State) : Result :=
  bitWriteMem (s.eaInd erd) (bclrOp (bitNumber (s.reg8 rn))) s

/-- BCLR Rn,@aa:8 (R264). -/
def execBclrRegAbs (rn : Reg8) (aa : BitVec 8) (s : State) : Result :=
  bitWriteMem (eaAbs8 aa) (bclrOp (bitNumber (s.reg8 rn))) s

/-- BNOT #xx:3,Rd (R265). -/
def execBnotImmReg (imm : BitVec 3) (rd : Reg8) (s : State) : Result := bitWriteReg rd (bnotOp imm) s

/-- BNOT #xx:3,@ERd (R265). -/
def execBnotImmInd (imm : BitVec 3) (erd : RegNum) (s : State) : Result :=
  bitWriteMem (s.eaInd erd) (bnotOp imm) s

/-- BNOT #xx:3,@aa:8 (R265). -/
def execBnotImmAbs (imm : BitVec 3) (aa : BitVec 8) (s : State) : Result :=
  bitWriteMem (eaAbs8 aa) (bnotOp imm) s

/-- BNOT Rn,Rd (R265). -/
def execBnotRegReg (rn : Reg8) (rd : Reg8) (s : State) : Result :=
  bitWriteReg rd (bnotOp (bitNumber (s.reg8 rn))) s

/-- BNOT Rn,@ERd (R265). -/
def execBnotRegInd (rn : Reg8) (erd : RegNum) (s : State) : Result :=
  bitWriteMem (s.eaInd erd) (bnotOp (bitNumber (s.reg8 rn))) s

/-- BNOT Rn,@aa:8 (R265). -/
def execBnotRegAbs (rn : Reg8) (aa : BitVec 8) (s : State) : Result :=
  bitWriteMem (eaAbs8 aa) (bnotOp (bitNumber (s.reg8 rn))) s

/-- BTST #xx:3,Rd (R266). -/
def execBtstImmReg (imm : BitVec 3) (rd : Reg8) (s : State) : Result := bitReadReg rd (btstOp imm) s

/-- BTST #xx:3,@ERd (R266). -/
def execBtstImmInd (imm : BitVec 3) (erd : RegNum) (s : State) : Result :=
  bitReadMem (s.eaInd erd) (btstOp imm) s

/-- BTST #xx:3,@aa:8 (R266). -/
def execBtstImmAbs (imm : BitVec 3) (aa : BitVec 8) (s : State) : Result :=
  bitReadMem (eaAbs8 aa) (btstOp imm) s

/-- BTST Rn,Rd (R266). -/
def execBtstRegReg (rn : Reg8) (rd : Reg8) (s : State) : Result :=
  bitReadReg rd (btstOp (bitNumber (s.reg8 rn))) s

/-- BTST Rn,@ERd (R266). -/
def execBtstRegInd (rn : Reg8) (erd : RegNum) (s : State) : Result :=
  bitReadMem (s.eaInd erd) (btstOp (bitNumber (s.reg8 rn))) s

/-- BTST Rn,@aa:8 (R266). -/
def execBtstRegAbs (rn : Reg8) (aa : BitVec 8) (s : State) : Result :=
  bitReadMem (eaAbs8 aa) (btstOp (bitNumber (s.reg8 rn))) s

/-- BAND #xx:3,Rd (R267). -/
def execBandReg (imm : BitVec 3) (rd : Reg8) (s : State) : Result := bitReadReg rd (bandOp imm) s

/-- BAND #xx:3,@ERd (R267). -/
def execBandInd (imm : BitVec 3) (erd : RegNum) (s : State) : Result :=
  bitReadMem (s.eaInd erd) (bandOp imm) s

/-- BAND #xx:3,@aa:8 (R267). -/
def execBandAbs (imm : BitVec 3) (aa : BitVec 8) (s : State) : Result := bitReadMem (eaAbs8 aa) (bandOp imm) s

/-- BIAND #xx:3,Rd (R268). -/
def execBiandReg (imm : BitVec 3) (rd : Reg8) (s : State) : Result := bitReadReg rd (biandOp imm) s

/-- BIAND #xx:3,@ERd (R268). -/
def execBiandInd (imm : BitVec 3) (erd : RegNum) (s : State) : Result :=
  bitReadMem (s.eaInd erd) (biandOp imm) s

/-- BIAND #xx:3,@aa:8 (R268). -/
def execBiandAbs (imm : BitVec 3) (aa : BitVec 8) (s : State) : Result :=
  bitReadMem (eaAbs8 aa) (biandOp imm) s

/-- BOR #xx:3,Rd (R269). -/
def execBorReg (imm : BitVec 3) (rd : Reg8) (s : State) : Result := bitReadReg rd (borOp imm) s

/-- BOR #xx:3,@ERd (R269). -/
def execBorInd (imm : BitVec 3) (erd : RegNum) (s : State) : Result := bitReadMem (s.eaInd erd) (borOp imm) s

/-- BOR #xx:3,@aa:8 (R269). -/
def execBorAbs (imm : BitVec 3) (aa : BitVec 8) (s : State) : Result := bitReadMem (eaAbs8 aa) (borOp imm) s

/-- BIOR #xx:3,Rd (R270). -/
def execBiorReg (imm : BitVec 3) (rd : Reg8) (s : State) : Result := bitReadReg rd (biorOp imm) s

/-- BIOR #xx:3,@ERd (R270). -/
def execBiorInd (imm : BitVec 3) (erd : RegNum) (s : State) : Result :=
  bitReadMem (s.eaInd erd) (biorOp imm) s

/-- BIOR #xx:3,@aa:8 (R270). -/
def execBiorAbs (imm : BitVec 3) (aa : BitVec 8) (s : State) : Result := bitReadMem (eaAbs8 aa) (biorOp imm) s

/-- BXOR #xx:3,Rd (R271). -/
def execBxorReg (imm : BitVec 3) (rd : Reg8) (s : State) : Result := bitReadReg rd (bxorOp imm) s

/-- BXOR #xx:3,@ERd (R271). -/
def execBxorInd (imm : BitVec 3) (erd : RegNum) (s : State) : Result :=
  bitReadMem (s.eaInd erd) (bxorOp imm) s

/-- BXOR #xx:3,@aa:8 (R271). -/
def execBxorAbs (imm : BitVec 3) (aa : BitVec 8) (s : State) : Result := bitReadMem (eaAbs8 aa) (bxorOp imm) s

/-- BIXOR #xx:3,Rd (R272). -/
def execBixorReg (imm : BitVec 3) (rd : Reg8) (s : State) : Result := bitReadReg rd (bixorOp imm) s

/-- BIXOR #xx:3,@ERd (R272). -/
def execBixorInd (imm : BitVec 3) (erd : RegNum) (s : State) : Result :=
  bitReadMem (s.eaInd erd) (bixorOp imm) s

/-- BIXOR #xx:3,@aa:8 (R272). -/
def execBixorAbs (imm : BitVec 3) (aa : BitVec 8) (s : State) : Result :=
  bitReadMem (eaAbs8 aa) (bixorOp imm) s

/-- BLD #xx:3,Rd (R273). -/
def execBldReg (imm : BitVec 3) (rd : Reg8) (s : State) : Result := bitReadReg rd (bldOp imm) s

/-- BLD #xx:3,@ERd (R273). -/
def execBldInd (imm : BitVec 3) (erd : RegNum) (s : State) : Result := bitReadMem (s.eaInd erd) (bldOp imm) s

/-- BLD #xx:3,@aa:8 (R273). -/
def execBldAbs (imm : BitVec 3) (aa : BitVec 8) (s : State) : Result := bitReadMem (eaAbs8 aa) (bldOp imm) s

/-- BILD #xx:3,Rd (R274). -/
def execBildReg (imm : BitVec 3) (rd : Reg8) (s : State) : Result := bitReadReg rd (bildOp imm) s

/-- BILD #xx:3,@ERd (R274). -/
def execBildInd (imm : BitVec 3) (erd : RegNum) (s : State) : Result :=
  bitReadMem (s.eaInd erd) (bildOp imm) s

/-- BILD #xx:3,@aa:8 (R274). -/
def execBildAbs (imm : BitVec 3) (aa : BitVec 8) (s : State) : Result := bitReadMem (eaAbs8 aa) (bildOp imm) s

/-- BST #xx:3,Rd (R275). -/
def execBstReg (imm : BitVec 3) (rd : Reg8) (s : State) : Result :=
  bitWriteReg rd (fun b => withBit b imm s.ccr.c) s

/-- BST #xx:3,@ERd (R275). -/
def execBstInd (imm : BitVec 3) (erd : RegNum) (s : State) : Result :=
  bitWriteMem (s.eaInd erd) (fun b => withBit b imm s.ccr.c) s

/-- BST #xx:3,@aa:8 (R275). -/
def execBstAbs (imm : BitVec 3) (aa : BitVec 8) (s : State) : Result :=
  bitWriteMem (eaAbs8 aa) (fun b => withBit b imm s.ccr.c) s

/-- BIST #xx:3,Rd (R276). -/
def execBistReg (imm : BitVec 3) (rd : Reg8) (s : State) : Result :=
  bitWriteReg rd (fun b => withBit b imm (!s.ccr.c)) s

/-- BIST #xx:3,@ERd (R276). -/
def execBistInd (imm : BitVec 3) (erd : RegNum) (s : State) : Result :=
  bitWriteMem (s.eaInd erd) (fun b => withBit b imm (!s.ccr.c)) s

/-- BIST #xx:3,@aa:8 (R276). -/
def execBistAbs (imm : BitVec 3) (aa : BitVec 8) (s : State) : Result :=
  bitWriteMem (eaAbs8 aa) (fun b => withBit b imm (!s.ccr.c)) s

end Sys2Proof.Machine
end

