-- ==== Sys2Proof/Machine/BlockTransfer.lean ====
section
/-! DEFINITION. The block transfer instruction EEPMOV (spec/47_block_transfer.md). -/

namespace Sys2Proof.Machine

/-- EEPMOV.B (R341): two dummy reads, then the bytes; no interrupt is detected in between. -/
def execEepmovB (s : State) : Result :=
  andThen (copyBytes countDownB (s.reg8 r4l).toNat s.sawEnds) fun t =>
    .next (t.advance 4)

/-- EEPMOV.W (R342): two dummy reads, then the bytes; an NMI can end it early (log 20). -/
def execEepmovW (s : State) : Result := blockMoveW s

end Sys2Proof.Machine
end

