-- ==== Sys2Proof/Machine/Branch.lean ====
section
/-! DEFINITION. The branch instructions: Bcc, JMP, BSR, JSR, RTS (spec/45_branch.md). -/

namespace Sys2Proof.Machine

/-- BRA d:8 or d:16 (R290). -/
def execBra (disp : Disp) (s : State) : Result := branch .ra disp s

/-- BRN d:8 or d:16 (R290). -/
def execBrn (disp : Disp) (s : State) : Result := branch .rn disp s

/-- BHI d:8 or d:16 (R290). -/
def execBhi (disp : Disp) (s : State) : Result := branch .hi disp s

/-- BLS d:8 or d:16 (R290). -/
def execBls (disp : Disp) (s : State) : Result := branch .ls disp s

/-- BCC d:8 or d:16 (R290). -/
def execBcc (disp : Disp) (s : State) : Result := branch .cc disp s

/-- BCS d:8 or d:16 (R290). -/
def execBcs (disp : Disp) (s : State) : Result := branch .cs disp s

/-- BNE d:8 or d:16 (R290). -/
def execBne (disp : Disp) (s : State) : Result := branch .ne disp s

/-- BEQ d:8 or d:16 (R290). -/
def execBeq (disp : Disp) (s : State) : Result := branch .eq disp s

/-- BVC d:8 or d:16 (R290). -/
def execBvc (disp : Disp) (s : State) : Result := branch .vc disp s

/-- BVS d:8 or d:16 (R290). -/
def execBvs (disp : Disp) (s : State) : Result := branch .vs disp s

/-- BPL d:8 or d:16 (R290). -/
def execBpl (disp : Disp) (s : State) : Result := branch .pl disp s

/-- BMI d:8 or d:16 (R290). -/
def execBmi (disp : Disp) (s : State) : Result := branch .mi disp s

/-- BGE d:8 or d:16 (R290). -/
def execBge (disp : Disp) (s : State) : Result := branch .ge disp s

/-- BLT d:8 or d:16 (R290). -/
def execBlt (disp : Disp) (s : State) : Result := branch .lt disp s

/-- BGT d:8 or d:16 (R290). -/
def execBgt (disp : Disp) (s : State) : Result := branch .gt disp s

/-- BLE d:8 or d:16 (R290). -/
def execBle (disp : Disp) (s : State) : Result := branch .le disp s

/-- JMP @ERn (R292). -/
def execJmpInd (ern : RegNum) (s : State) : Result := .next (s.setPc (s.eaInd ern))

/-- JMP @aa:24 (R293). -/
def execJmpAbs (aa : BitVec 24) (s : State) : Result := .next (s.setPc aa)

/-- JMP @@aa:8 (R294). -/
def execJmpMem (aa : BitVec 8) (s : State) : Result :=
  .next ((s.sawMemInd aa).setPc (s.memInd aa))

/-- BSR d:8 or d:16 (R296). -/
def execBsr (disp : Disp) (s : State) : Result := callTo (Disp.len disp) (s.pcRel disp) s

/-- JSR @ERn (R297). The target is taken before the push (D25). -/
def execJsrInd (ern : RegNum) (s : State) : Result := callTo 2 (s.eaInd ern) s

/-- JSR @aa:24 (R298). -/
def execJsrAbs (aa : BitVec 24) (s : State) : Result := callTo 4 aa s

/-- JSR @@aa:8 (R299). The table entry is read before the push (D25). -/
def execJsrMem (aa : BitVec 8) (s : State) : Result :=
  callTo 2 (s.memInd aa) (s.sawMemInd aa)

/-- RTS (R300). -/
def execRts (s : State) : Result := returnFromCall s

end Sys2Proof.Machine
end

