-- ==== Sys2Proof/Machine/DataTransfer.lean ====
section
/-! DEFINITION. The data transfer instructions: MOV, MOVFPE, MOVTPE, POP, PUSH (spec/40_data_transfer.md). -/

namespace Sys2Proof.Machine

/-- MOV.B Rs,Rd (R122). -/
def execMovBRR (rs : Reg8) (rd : Reg8) (s : State) : Result := alu8 2 rd (movOp (s.reg8 rs)) s

/-- MOV.W Rs,Rd (R123). -/
def execMovWRR (rs : Reg16) (rd : Reg16) (s : State) : Result := alu16 2 rd (movOp (s.reg16 rs)) s

/-- MOV.L ERs,ERd (R124). -/
def execMovLRR (ers : RegNum) (erd : RegNum) (s : State) : Result := alu32 2 erd (movOp (s.reg32 ers)) s

/-- MOV.B #xx:8,Rd (R125). -/
def execMovBImm (imm : BitVec 8) (rd : Reg8) (s : State) : Result := alu8 2 rd (movOp imm) s

/-- MOV.W #xx:16,Rd (R126). -/
def execMovWImm (imm : BitVec 16) (rd : Reg16) (s : State) : Result := alu16 4 rd (movOp imm) s

/-- MOV.L #xx:32,ERd (R127). -/
def execMovLImm (imm : BitVec 32) (erd : RegNum) (s : State) : Result := alu32 6 erd (movOp imm) s

/-- MOV.B @ERs,Rd (R128). -/
def execMovBLdInd (ers : RegNum) (rd : Reg8) (s : State) : Result := load8 2 (s.eaInd ers) rd s

/-- MOV.W @ERs,Rd (R128). -/
def execMovWLdInd (ers : RegNum) (rd : Reg16) (s : State) : Result := load16 2 (s.eaInd ers) rd s

/-- MOV.L @ERs,ERd (R128). -/
def execMovLLdInd (ers : RegNum) (erd : RegNum) (s : State) : Result := load32 4 (s.eaInd ers) erd s

/-- MOV.B @(d:16,ERs),Rd (R129). -/
def execMovBLdD16 (disp : BitVec 16) (ers : RegNum) (rd : Reg8) (s : State) : Result :=
  load8 4 (s.eaDisp16 ers disp) rd s

/-- MOV.W @(d:16,ERs),Rd (R129). -/
def execMovWLdD16 (disp : BitVec 16) (ers : RegNum) (rd : Reg16) (s : State) : Result :=
  load16 4 (s.eaDisp16 ers disp) rd s

/-- MOV.L @(d:16,ERs),ERd (R129). -/
def execMovLLdD16 (disp : BitVec 16) (ers : RegNum) (erd : RegNum) (s : State) : Result :=
  load32 6 (s.eaDisp16 ers disp) erd s

/-- MOV.B @(d:24,ERs),Rd (R130). -/
def execMovBLdD24 (disp : BitVec 24) (ers : RegNum) (rd : Reg8) (s : State) : Result :=
  load8 8 (s.eaDisp24 ers disp) rd s

/-- MOV.W @(d:24,ERs),Rd (R130). -/
def execMovWLdD24 (disp : BitVec 24) (ers : RegNum) (rd : Reg16) (s : State) : Result :=
  load16 8 (s.eaDisp24 ers disp) rd s

/-- MOV.L @(d:24,ERs),ERd (R130). -/
def execMovLLdD24 (disp : BitVec 24) (ers : RegNum) (erd : RegNum) (s : State) : Result :=
  load32 10 (s.eaDisp24 ers disp) erd s

/-- MOV.B @ERs+,Rd (R131). The loaded value wins where it overlaps the address register (R145, D11). -/
def execMovBLdInc (ers : RegNum) (rd : Reg8) (s : State) : Result :=
  load8 2 (s.eaInd ers) rd (s.stepUp ers 1#32)

/-- MOV.W @ERs+,Rd (R131). With ER7 this is POP.W: odd SP refused (U9). -/
def execMovWLdInc (ers : RegNum) (rd : Reg16) (s : State) : Result :=
  guardStackReg ers s fun s => load16 2 (s.eaInd ers) rd (s.stepUp ers 2#32)

/-- MOV.L @ERs+,ERd (R131). With ER7 this is POP.L: odd SP refused (U9). -/
def execMovLLdInc (ers : RegNum) (erd : RegNum) (s : State) : Result :=
  guardStackReg ers s fun s => load32 4 (s.eaInd ers) erd (s.stepUp ers 4#32)

/-- MOV.B @aa:8,Rd (R132). -/
def execMovBLdA8 (aa : BitVec 8) (rd : Reg8) (s : State) : Result := load8 2 (eaAbs8 aa) rd s

/-- MOV.B @aa:16,Rd (R133). -/
def execMovBLdA16 (aa : BitVec 16) (rd : Reg8) (s : State) : Result := load8 4 (eaAbs16 aa) rd s

/-- MOV.W @aa:16,Rd (R133). -/
def execMovWLdA16 (aa : BitVec 16) (rd : Reg16) (s : State) : Result := load16 4 (eaAbs16 aa) rd s

/-- MOV.L @aa:16,ERd (R133). -/
def execMovLLdA16 (aa : BitVec 16) (erd : RegNum) (s : State) : Result := load32 6 (eaAbs16 aa) erd s

/-- MOV.B @aa:24,Rd (R134). -/
def execMovBLdA24 (aa : BitVec 24) (rd : Reg8) (s : State) : Result := load8 6 aa rd s

/-- MOV.W @aa:24,Rd (R134). -/
def execMovWLdA24 (aa : BitVec 24) (rd : Reg16) (s : State) : Result := load16 6 aa rd s

/-- MOV.L @aa:24,ERd (R134). -/
def execMovLLdA24 (aa : BitVec 24) (erd : RegNum) (s : State) : Result := load32 8 aa erd s

/-- MOV.B Rs,@ERd (R135). -/
def execMovBStInd (rs : Reg8) (erd : RegNum) (s : State) : Result := store8 2 (s.eaInd erd) rs s

/-- MOV.W Rs,@ERd (R135). -/
def execMovWStInd (rs : Reg16) (erd : RegNum) (s : State) : Result := store16 2 (s.eaInd erd) rs s

/-- MOV.L ERs,@ERd (R135). -/
def execMovLStInd (ers : RegNum) (erd : RegNum) (s : State) : Result := store32 4 (s.eaInd erd) ers s

/-- MOV.B Rs,@(d:16,ERd) (R136). -/
def execMovBStD16 (rs : Reg8) (disp : BitVec 16) (erd : RegNum) (s : State) : Result :=
  store8 4 (s.eaDisp16 erd disp) rs s

/-- MOV.W Rs,@(d:16,ERd) (R136). -/
def execMovWStD16 (rs : Reg16) (disp : BitVec 16) (erd : RegNum) (s : State) : Result :=
  store16 4 (s.eaDisp16 erd disp) rs s

/-- MOV.L ERs,@(d:16,ERd) (R136). -/
def execMovLStD16 (ers : RegNum) (disp : BitVec 16) (erd : RegNum) (s : State) : Result :=
  store32 6 (s.eaDisp16 erd disp) ers s

/-- MOV.B Rs,@(d:24,ERd) (R137). -/
def execMovBStD24 (rs : Reg8) (disp : BitVec 24) (erd : RegNum) (s : State) : Result :=
  store8 8 (s.eaDisp24 erd disp) rs s

/-- MOV.W Rs,@(d:24,ERd) (R137). -/
def execMovWStD24 (rs : Reg16) (disp : BitVec 24) (erd : RegNum) (s : State) : Result :=
  store16 8 (s.eaDisp24 erd disp) rs s

/-- MOV.L ERs,@(d:24,ERd) (R137). -/
def execMovLStD24 (ers : RegNum) (disp : BitVec 24) (erd : RegNum) (s : State) : Result :=
  store32 10 (s.eaDisp24 erd disp) ers s

/-- MOV.B Rs,@-ERd (R138). The source is read after the decrement (R146). -/
def execMovBStDec (rs : Reg8) (erd : RegNum) (s : State) : Result :=
  let t := s.stepDown erd 1#32
  store8 2 (t.eaInd erd) rs t

/-- MOV.W Rs,@-ERd (R138). With ER7 this is PUSH.W: odd SP refused (U9). -/
def execMovWStDec (rs : Reg16) (erd : RegNum) (s : State) : Result :=
  guardStackReg erd s fun s =>
    let t := s.stepDown erd 2#32
    store16 2 (t.eaInd erd) rs t

/-- MOV.L ERs,@-ERd (R138). With ER7 this is PUSH.L (R111): odd SP refused (U9), the low-order word written first (R153). -/
def execMovLStDec (ers : RegNum) (erd : RegNum) (s : State) : Result :=
  guardStackReg erd s fun s =>
    let t := s.stepDown erd 4#32
    if erd = .r7 then store32LowFirst 4 (t.eaInd erd) ers t else store32 4 (t.eaInd erd) ers t

/-- MOV.B Rs,@aa:8 (R139). -/
def execMovBStA8 (rs : Reg8) (aa : BitVec 8) (s : State) : Result := store8 2 (eaAbs8 aa) rs s

/-- MOV.B Rs,@aa:16 (R140). -/
def execMovBStA16 (rs : Reg8) (aa : BitVec 16) (s : State) : Result := store8 4 (eaAbs16 aa) rs s

/-- MOV.W Rs,@aa:16 (R140). -/
def execMovWStA16 (rs : Reg16) (aa : BitVec 16) (s : State) : Result := store16 4 (eaAbs16 aa) rs s

/-- MOV.L ERs,@aa:16 (R140). -/
def execMovLStA16 (ers : RegNum) (aa : BitVec 16) (s : State) : Result := store32 6 (eaAbs16 aa) ers s

/-- MOV.B Rs,@aa:24 (R141). -/
def execMovBStA24 (rs : Reg8) (aa : BitVec 24) (s : State) : Result := store8 6 aa rs s

/-- MOV.W Rs,@aa:24 (R141). -/
def execMovWStA24 (rs : Reg16) (aa : BitVec 24) (s : State) : Result := store16 6 aa rs s

/-- MOV.L ERs,@aa:24 (R141). -/
def execMovLStA24 (ers : RegNum) (aa : BitVec 24) (s : State) : Result := store32 8 aa ers s

/-- MOVFPE @aa:16,Rd (R148). The E clock is a timing property (D19). -/
def execMovfpe (aa : BitVec 16) (rd : Reg8) (s : State) : Result :=
  guardEclock s fun s => load8 4 (eaAbs16 aa) rd s

/-- MOVTPE Rs,@aa:16 (R149). The E clock is a timing property (D19). -/
def execMovtpe (rs : Reg8) (aa : BitVec 16) (s : State) : Result :=
  guardEclock s fun s => store8 4 (eaAbs16 aa) rs s

/-- POP.W Rn (R150). -/
def execPopW (rn : Reg16) (s : State) : Result :=
  guardSp s fun s => load16 2 (s.eaInd .r7) rn (s.stepUp .r7 2#32)

/-- POP.L ERn (R151). -/
def execPopL (ern : RegNum) (s : State) : Result :=
  guardSp s fun s => load32 4 (s.eaInd .r7) ern (s.stepUp .r7 4#32)

/-- PUSH.W Rn (R152). -/
def execPushW (rn : Reg16) (s : State) : Result :=
  guardSp s fun s =>
    let t := s.stepDown .r7 2#32
    store16 2 (t.eaInd .r7) rn t

/-- PUSH.L ERn (R153). -/
def execPushL (ern : RegNum) (s : State) : Result :=
  guardSp s fun s =>
    let t := s.stepDown .r7 4#32
    store32LowFirst 4 (t.eaInd .r7) ern t

end Sys2Proof.Machine
end

