-- ==== Sys2Proof/Machine/Logic.lean ====
section
/-! DEFINITION. The logic instructions: AND, OR, XOR, NOT (spec/42_logic.md). -/

namespace Sys2Proof.Machine

/-- AND.B #xx:8,Rd (R221). -/
def execAndBImm (imm : BitVec 8) (rd : Reg8) (s : State) : Result := alu8 2 rd (andOp imm) s

/-- AND.B Rs,Rd (R221). -/
def execAndBReg (rs : Reg8) (rd : Reg8) (s : State) : Result := alu8 2 rd (andOp (s.reg8 rs)) s

/-- AND.W #xx:16,Rd (R222). -/
def execAndWImm (imm : BitVec 16) (rd : Reg16) (s : State) : Result := alu16 4 rd (andOp imm) s

/-- AND.W Rs,Rd (R222). -/
def execAndWReg (rs : Reg16) (rd : Reg16) (s : State) : Result := alu16 2 rd (andOp (s.reg16 rs)) s

/-- AND.L #xx:32,ERd (R223). -/
def execAndLImm (imm : BitVec 32) (erd : RegNum) (s : State) : Result := alu32 6 erd (andOp imm) s

/-- AND.L ERs,ERd (R223). -/
def execAndLReg (ers : RegNum) (erd : RegNum) (s : State) : Result := alu32 4 erd (andOp (s.reg32 ers)) s

/-- OR.B #xx:8,Rd (R224). -/
def execOrBImm (imm : BitVec 8) (rd : Reg8) (s : State) : Result := alu8 2 rd (orOp imm) s

/-- OR.B Rs,Rd (R224). -/
def execOrBReg (rs : Reg8) (rd : Reg8) (s : State) : Result := alu8 2 rd (orOp (s.reg8 rs)) s

/-- OR.W #xx:16,Rd (R225). -/
def execOrWImm (imm : BitVec 16) (rd : Reg16) (s : State) : Result := alu16 4 rd (orOp imm) s

/-- OR.W Rs,Rd (R225). -/
def execOrWReg (rs : Reg16) (rd : Reg16) (s : State) : Result := alu16 2 rd (orOp (s.reg16 rs)) s

/-- OR.L #xx:32,ERd (R226). -/
def execOrLImm (imm : BitVec 32) (erd : RegNum) (s : State) : Result := alu32 6 erd (orOp imm) s

/-- OR.L ERs,ERd (R226). -/
def execOrLReg (ers : RegNum) (erd : RegNum) (s : State) : Result := alu32 4 erd (orOp (s.reg32 ers)) s

/-- XOR.B #xx:8,Rd (R227). -/
def execXorBImm (imm : BitVec 8) (rd : Reg8) (s : State) : Result := alu8 2 rd (xorOp imm) s

/-- XOR.B Rs,Rd (R227). -/
def execXorBReg (rs : Reg8) (rd : Reg8) (s : State) : Result := alu8 2 rd (xorOp (s.reg8 rs)) s

/-- XOR.W #xx:16,Rd (R228). -/
def execXorWImm (imm : BitVec 16) (rd : Reg16) (s : State) : Result := alu16 4 rd (xorOp imm) s

/-- XOR.W Rs,Rd (R228). -/
def execXorWReg (rs : Reg16) (rd : Reg16) (s : State) : Result := alu16 2 rd (xorOp (s.reg16 rs)) s

/-- XOR.L #xx:32,ERd (R229). -/
def execXorLImm (imm : BitVec 32) (erd : RegNum) (s : State) : Result := alu32 6 erd (xorOp imm) s

/-- XOR.L ERs,ERd (R229). -/
def execXorLReg (ers : RegNum) (erd : RegNum) (s : State) : Result := alu32 4 erd (xorOp (s.reg32 ers)) s

/-- NOT.B Rd (R230). -/
def execNotB (rd : Reg8) (s : State) : Result := alu8 2 rd notOp s

/-- NOT.W Rd (R231). -/
def execNotW (rd : Reg16) (s : State) : Result := alu16 2 rd notOp s

/-- NOT.L ERd (R232). -/
def execNotL (erd : RegNum) (s : State) : Result := alu32 2 erd notOp s

end Sys2Proof.Machine
end

