-- ==== Sys2Proof/Machine/Shift.lean ====
section
/-! DEFINITION. The shift and rotate instructions (spec/43_shift.md). -/

namespace Sys2Proof.Machine

/-- SHAL.B Rd (R241). -/
def execShalB (rd : Reg8) (s : State) : Result := alu8 2 rd shalOp s

/-- SHAL.W Rd (R241). -/
def execShalW (rd : Reg16) (s : State) : Result := alu16 2 rd shalOp s

/-- SHAL.L ERd (R241). -/
def execShalL (erd : RegNum) (s : State) : Result := alu32 2 erd shalOp s

/-- SHAR.B Rd (R242). -/
def execSharB (rd : Reg8) (s : State) : Result := alu8 2 rd sharOp s

/-- SHAR.W Rd (R242). -/
def execSharW (rd : Reg16) (s : State) : Result := alu16 2 rd sharOp s

/-- SHAR.L ERd (R242). -/
def execSharL (erd : RegNum) (s : State) : Result := alu32 2 erd sharOp s

/-- SHLL.B Rd (R243). -/
def execShllB (rd : Reg8) (s : State) : Result := alu8 2 rd shllOp s

/-- SHLL.W Rd (R243). -/
def execShllW (rd : Reg16) (s : State) : Result := alu16 2 rd shllOp s

/-- SHLL.L ERd (R243). -/
def execShllL (erd : RegNum) (s : State) : Result := alu32 2 erd shllOp s

/-- SHLR.B Rd (R244). -/
def execShlrB (rd : Reg8) (s : State) : Result := alu8 2 rd shlrOp s

/-- SHLR.W Rd (R244). -/
def execShlrW (rd : Reg16) (s : State) : Result := alu16 2 rd shlrOp s

/-- SHLR.L ERd (R244). -/
def execShlrL (erd : RegNum) (s : State) : Result := alu32 2 erd shlrOp s

/-- ROTL.B Rd (R245). -/
def execRotlB (rd : Reg8) (s : State) : Result := alu8 2 rd rotlOp s

/-- ROTL.W Rd (R245). -/
def execRotlW (rd : Reg16) (s : State) : Result := alu16 2 rd rotlOp s

/-- ROTL.L ERd (R245). -/
def execRotlL (erd : RegNum) (s : State) : Result := alu32 2 erd rotlOp s

/-- ROTR.B Rd (R246). -/
def execRotrB (rd : Reg8) (s : State) : Result := alu8 2 rd rotrOp s

/-- ROTR.W Rd (R246). -/
def execRotrW (rd : Reg16) (s : State) : Result := alu16 2 rd rotrOp s

/-- ROTR.L ERd (R246). -/
def execRotrL (erd : RegNum) (s : State) : Result := alu32 2 erd rotrOp s

/-- ROTXL.B Rd (R247). -/
def execRotxlB (rd : Reg8) (s : State) : Result := alu8 2 rd rotxlOp s

/-- ROTXL.W Rd (R247). -/
def execRotxlW (rd : Reg16) (s : State) : Result := alu16 2 rd rotxlOp s

/-- ROTXL.L ERd (R247). -/
def execRotxlL (erd : RegNum) (s : State) : Result := alu32 2 erd rotxlOp s

/-- ROTXR.B Rd (R248). -/
def execRotxrB (rd : Reg8) (s : State) : Result := alu8 2 rd rotxrOp s

/-- ROTXR.W Rd (R248). -/
def execRotxrW (rd : Reg16) (s : State) : Result := alu16 2 rd rotxrOp s

/-- ROTXR.L ERd (R248). -/
def execRotxrL (erd : RegNum) (s : State) : Result := alu32 2 erd rotxrOp s

end Sys2Proof.Machine
end

