-- ==== Sys2Proof/Machine/SystemControl.lean ====
section
/-! DEFINITION. The system control instructions (spec/46_system_control.md). -/

namespace Sys2Proof.Machine

/-- LDC.B #xx:8,CCR (R314). -/
def execLdcBImm (imm : BitVec 8) (s : State) : Result := writeCcr 2 (Ccr.ofByte imm) s

/-- LDC.B Rs,CCR (R315). -/
def execLdcBReg (rs : Reg8) (s : State) : Result := writeCcr 2 (Ccr.ofByte (s.reg8 rs)) s

/-- LDC.W @ERs,CCR (R316). -/
def execLdcWInd (ers : RegNum) (s : State) : Result := loadCcr 4 (s.eaInd ers) s

/-- LDC.W @(d:16,ERs),CCR (R316). -/
def execLdcWD16 (disp : BitVec 16) (ers : RegNum) (s : State) : Result := loadCcr 6 (s.eaDisp16 ers disp) s

/-- LDC.W @(d:24,ERs),CCR (R316). -/
def execLdcWD24 (disp : BitVec 24) (ers : RegNum) (s : State) : Result := loadCcr 10 (s.eaDisp24 ers disp) s

/-- LDC.W @ERs+,CCR (R316). Not among the stack accesses U9 names: an odd ER7 follows R57 (log 11). -/
def execLdcWInc (ers : RegNum) (s : State) : Result := loadCcr 4 (s.eaInd ers) (s.stepUp ers 2#32)

/-- LDC.W @aa:16,CCR (R316). -/
def execLdcWA16 (aa : BitVec 16) (s : State) : Result := loadCcr 6 (eaAbs16 aa) s

/-- LDC.W @aa:24,CCR (R316). -/
def execLdcWA24 (aa : BitVec 24) (s : State) : Result := loadCcr 8 aa s

/-- STC.B CCR,Rd (R317). -/
def execStcBReg (rd : Reg8) (s : State) : Result := .next ((s.setReg8 rd s.ccr.toByte).advance 2)

/-- STC.W CCR,@ERd (R318). The odd byte is free (D12; log 16). -/
def execStcWInd (erd : RegNum) (s : State) : Result := storeCcr 4 (s.eaInd erd) s

/-- STC.W CCR,@(d:16,ERd) (R318). -/
def execStcWD16 (disp : BitVec 16) (erd : RegNum) (s : State) : Result := storeCcr 6 (s.eaDisp16 erd disp) s

/-- STC.W CCR,@(d:24,ERd) (R318). -/
def execStcWD24 (disp : BitVec 24) (erd : RegNum) (s : State) : Result := storeCcr 10 (s.eaDisp24 erd disp) s

/-- STC.W CCR,@-ERd (R318). Not among the stack accesses U9 names: an odd ER7 follows R57 (log 11). -/
def execStcWDec (erd : RegNum) (s : State) : Result :=
  let t := s.stepDown erd 2#32
  storeCcr 4 (t.eaInd erd) t

/-- STC.W CCR,@aa:16 (R318). -/
def execStcWA16 (aa : BitVec 16) (s : State) : Result := storeCcr 6 (eaAbs16 aa) s

/-- STC.W CCR,@aa:24 (R318). -/
def execStcWA24 (aa : BitVec 24) (s : State) : Result := storeCcr 8 aa s

/-- ANDC #xx:8,CCR (R319). -/
def execAndc (imm : BitVec 8) (s : State) : Result := writeCcr 2 (s.ccr.zipWith and (Ccr.ofByte imm)) s

/-- ORC #xx:8,CCR (R320). -/
def execOrc (imm : BitVec 8) (s : State) : Result := writeCcr 2 (s.ccr.zipWith or (Ccr.ofByte imm)) s

/-- XORC #xx:8,CCR (R321). -/
def execXorc (imm : BitVec 8) (s : State) : Result := writeCcr 2 (s.ccr.zipWith xor (Ccr.ofByte imm)) s

/-- RTE (R311). -/
def execRte (s : State) : Result := returnFromException s

/-- TRAPA #0 (R312). -/
def execTrapa0 (s : State) : Result := trap 0#2 s

/-- TRAPA #1 (R312). -/
def execTrapa1 (s : State) : Result := trap 1#2 s

/-- TRAPA #2 (R312). -/
def execTrapa2 (s : State) : Result := trap 2#2 s

/-- TRAPA #3 (R312). -/
def execTrapa3 (s : State) : Result := trap 3#2 s

/-- SLEEP (R313). Software standby puts the peripheral modules into their reset state (R380, log 36). -/
def execSleep (s : State) : Result :=
  if s.cfg.ssby then .next { (s.advance 2).noted .outside with pstate := .softwareStandby }
  else .next { s.advance 2 with pstate := .sleep }

/-- NOP (R322). -/
def execNop (s : State) : Result := .next (s.advance 2)

end Sys2Proof.Machine
end

