-- ==== Sys2Proof/Machine/Dispatch.lean ====
section
/-! DEFINITION. The dispatch: one arm per constructor of Instr, each a direct call of its meaning. -/

namespace Sys2Proof.Machine

def exec (i : Instr) (s : State) : Host.Outcome State Fault Refusal :=
  match i with
  | .movBRR rs rd => Sys2Proof.Machine.execMovBRR rs rd s
  | .movWRR rs rd => Sys2Proof.Machine.execMovWRR rs rd s
  | .movLRR ers erd => Sys2Proof.Machine.execMovLRR ers erd s
  | .movBImm imm rd => Sys2Proof.Machine.execMovBImm imm rd s
  | .movWImm imm rd => Sys2Proof.Machine.execMovWImm imm rd s
  | .movLImm imm erd => Sys2Proof.Machine.execMovLImm imm erd s
  | .movBLdInd ers rd => Sys2Proof.Machine.execMovBLdInd ers rd s
  | .movWLdInd ers rd => Sys2Proof.Machine.execMovWLdInd ers rd s
  | .movLLdInd ers erd => Sys2Proof.Machine.execMovLLdInd ers erd s
  | .movBLdD16 disp ers rd => Sys2Proof.Machine.execMovBLdD16 disp ers rd s
  | .movWLdD16 disp ers rd => Sys2Proof.Machine.execMovWLdD16 disp ers rd s
  | .movLLdD16 disp ers erd => Sys2Proof.Machine.execMovLLdD16 disp ers erd s
  | .movBLdD24 disp ers rd => Sys2Proof.Machine.execMovBLdD24 disp ers rd s
  | .movWLdD24 disp ers rd => Sys2Proof.Machine.execMovWLdD24 disp ers rd s
  | .movLLdD24 disp ers erd => Sys2Proof.Machine.execMovLLdD24 disp ers erd s
  | .movBLdInc ers rd => Sys2Proof.Machine.execMovBLdInc ers rd s
  | .movWLdInc ers rd => Sys2Proof.Machine.execMovWLdInc ers rd s
  | .movLLdInc ers erd => Sys2Proof.Machine.execMovLLdInc ers erd s
  | .movBLdA8 aa rd => Sys2Proof.Machine.execMovBLdA8 aa rd s
  | .movBLdA16 aa rd => Sys2Proof.Machine.execMovBLdA16 aa rd s
  | .movWLdA16 aa rd => Sys2Proof.Machine.execMovWLdA16 aa rd s
  | .movLLdA16 aa erd => Sys2Proof.Machine.execMovLLdA16 aa erd s
  | .movBLdA24 aa rd => Sys2Proof.Machine.execMovBLdA24 aa rd s
  | .movWLdA24 aa rd => Sys2Proof.Machine.execMovWLdA24 aa rd s
  | .movLLdA24 aa erd => Sys2Proof.Machine.execMovLLdA24 aa erd s
  | .movBStInd rs erd => Sys2Proof.Machine.execMovBStInd rs erd s
  | .movWStInd rs erd => Sys2Proof.Machine.execMovWStInd rs erd s
  | .movLStInd ers erd => Sys2Proof.Machine.execMovLStInd ers erd s
  | .movBStD16 rs disp erd => Sys2Proof.Machine.execMovBStD16 rs disp erd s
  | .movWStD16 rs disp erd => Sys2Proof.Machine.execMovWStD16 rs disp erd s
  | .movLStD16 ers disp erd => Sys2Proof.Machine.execMovLStD16 ers disp erd s
  | .movBStD24 rs disp erd => Sys2Proof.Machine.execMovBStD24 rs disp erd s
  | .movWStD24 rs disp erd => Sys2Proof.Machine.execMovWStD24 rs disp erd s
  | .movLStD24 ers disp erd => Sys2Proof.Machine.execMovLStD24 ers disp erd s
  | .movBStDec rs erd => Sys2Proof.Machine.execMovBStDec rs erd s
  | .movWStDec rs erd => Sys2Proof.Machine.execMovWStDec rs erd s
  | .movLStDec ers erd => Sys2Proof.Machine.execMovLStDec ers erd s
  | .movBStA8 rs aa => Sys2Proof.Machine.execMovBStA8 rs aa s
  | .movBStA16 rs aa => Sys2Proof.Machine.execMovBStA16 rs aa s
  | .movWStA16 rs aa => Sys2Proof.Machine.execMovWStA16 rs aa s
  | .movLStA16 ers aa => Sys2Proof.Machine.execMovLStA16 ers aa s
  | .movBStA24 rs aa => Sys2Proof.Machine.execMovBStA24 rs aa s
  | .movWStA24 rs aa => Sys2Proof.Machine.execMovWStA24 rs aa s
  | .movLStA24 ers aa => Sys2Proof.Machine.execMovLStA24 ers aa s
  | .movfpe aa rd => Sys2Proof.Machine.execMovfpe aa rd s
  | .movtpe rs aa => Sys2Proof.Machine.execMovtpe rs aa s
  | .popW rn => Sys2Proof.Machine.execPopW rn s
  | .popL ern => Sys2Proof.Machine.execPopL ern s
  | .pushW rn => Sys2Proof.Machine.execPushW rn s
  | .pushL ern => Sys2Proof.Machine.execPushL ern s
  | .addBImm imm rd => Sys2Proof.Machine.execAddBImm imm rd s
  | .addBReg rs rd => Sys2Proof.Machine.execAddBReg rs rd s
  | .addWImm imm rd => Sys2Proof.Machine.execAddWImm imm rd s
  | .addWReg rs rd => Sys2Proof.Machine.execAddWReg rs rd s
  | .addLImm imm erd => Sys2Proof.Machine.execAddLImm imm erd s
  | .addLReg ers erd => Sys2Proof.Machine.execAddLReg ers erd s
  | .subBReg rs rd => Sys2Proof.Machine.execSubBReg rs rd s
  | .subWImm imm rd => Sys2Proof.Machine.execSubWImm imm rd s
  | .subWReg rs rd => Sys2Proof.Machine.execSubWReg rs rd s
  | .subLImm imm erd => Sys2Proof.Machine.execSubLImm imm erd s
  | .subLReg ers erd => Sys2Proof.Machine.execSubLReg ers erd s
  | .addxImm imm rd => Sys2Proof.Machine.execAddxImm imm rd s
  | .addxReg rs rd => Sys2Proof.Machine.execAddxReg rs rd s
  | .subxImm imm rd => Sys2Proof.Machine.execSubxImm imm rd s
  | .subxReg rs rd => Sys2Proof.Machine.execSubxReg rs rd s
  | .incB rd => Sys2Proof.Machine.execIncB rd s
  | .incW1 rd => Sys2Proof.Machine.execIncW1 rd s
  | .incW2 rd => Sys2Proof.Machine.execIncW2 rd s
  | .incL1 erd => Sys2Proof.Machine.execIncL1 erd s
  | .incL2 erd => Sys2Proof.Machine.execIncL2 erd s
  | .decB rd => Sys2Proof.Machine.execDecB rd s
  | .decW1 rd => Sys2Proof.Machine.execDecW1 rd s
  | .decW2 rd => Sys2Proof.Machine.execDecW2 rd s
  | .decL1 erd => Sys2Proof.Machine.execDecL1 erd s
  | .decL2 erd => Sys2Proof.Machine.execDecL2 erd s
  | .adds1 erd => Sys2Proof.Machine.execAdds1 erd s
  | .adds2 erd => Sys2Proof.Machine.execAdds2 erd s
  | .adds4 erd => Sys2Proof.Machine.execAdds4 erd s
  | .subs1 erd => Sys2Proof.Machine.execSubs1 erd s
  | .subs2 erd => Sys2Proof.Machine.execSubs2 erd s
  | .subs4 erd => Sys2Proof.Machine.execSubs4 erd s
  | .daa rd => Sys2Proof.Machine.execDaa rd s
  | .das rd => Sys2Proof.Machine.execDas rd s
  | .mulxuB rs rd => Sys2Proof.Machine.execMulxuB rs rd s
  | .mulxuW rs erd => Sys2Proof.Machine.execMulxuW rs erd s
  | .mulxsB rs rd => Sys2Proof.Machine.execMulxsB rs rd s
  | .mulxsW rs erd => Sys2Proof.Machine.execMulxsW rs erd s
  | .divxuB rs rd => Sys2Proof.Machine.execDivxuB rs rd s
  | .divxuW rs erd => Sys2Proof.Machine.execDivxuW rs erd s
  | .divxsB rs rd => Sys2Proof.Machine.execDivxsB rs rd s
  | .divxsW rs erd => Sys2Proof.Machine.execDivxsW rs erd s
  | .cmpBImm imm rd => Sys2Proof.Machine.execCmpBImm imm rd s
  | .cmpBReg rs rd => Sys2Proof.Machine.execCmpBReg rs rd s
  | .cmpWImm imm rd => Sys2Proof.Machine.execCmpWImm imm rd s
  | .cmpWReg rs rd => Sys2Proof.Machine.execCmpWReg rs rd s
  | .cmpLImm imm erd => Sys2Proof.Machine.execCmpLImm imm erd s
  | .cmpLReg ers erd => Sys2Proof.Machine.execCmpLReg ers erd s
  | .negB rd => Sys2Proof.Machine.execNegB rd s
  | .negW rd => Sys2Proof.Machine.execNegW rd s
  | .negL erd => Sys2Proof.Machine.execNegL erd s
  | .extsW rd => Sys2Proof.Machine.execExtsW rd s
  | .extsL erd => Sys2Proof.Machine.execExtsL erd s
  | .extuW rd => Sys2Proof.Machine.execExtuW rd s
  | .extuL erd => Sys2Proof.Machine.execExtuL erd s
  | .andBImm imm rd => Sys2Proof.Machine.execAndBImm imm rd s
  | .andBReg rs rd => Sys2Proof.Machine.execAndBReg rs rd s
  | .andWImm imm rd => Sys2Proof.Machine.execAndWImm imm rd s
  | .andWReg rs rd => Sys2Proof.Machine.execAndWReg rs rd s
  | .andLImm imm erd => Sys2Proof.Machine.execAndLImm imm erd s
  | .andLReg ers erd => Sys2Proof.Machine.execAndLReg ers erd s
  | .orBImm imm rd => Sys2Proof.Machine.execOrBImm imm rd s
  | .orBReg rs rd => Sys2Proof.Machine.execOrBReg rs rd s
  | .orWImm imm rd => Sys2Proof.Machine.execOrWImm imm rd s
  | .orWReg rs rd => Sys2Proof.Machine.execOrWReg rs rd s
  | .orLImm imm erd => Sys2Proof.Machine.execOrLImm imm erd s
  | .orLReg ers erd => Sys2Proof.Machine.execOrLReg ers erd s
  | .xorBImm imm rd => Sys2Proof.Machine.execXorBImm imm rd s
  | .xorBReg rs rd => Sys2Proof.Machine.execXorBReg rs rd s
  | .xorWImm imm rd => Sys2Proof.Machine.execXorWImm imm rd s
  | .xorWReg rs rd => Sys2Proof.Machine.execXorWReg rs rd s
  | .xorLImm imm erd => Sys2Proof.Machine.execXorLImm imm erd s
  | .xorLReg ers erd => Sys2Proof.Machine.execXorLReg ers erd s
  | .notB rd => Sys2Proof.Machine.execNotB rd s
  | .notW rd => Sys2Proof.Machine.execNotW rd s
  | .notL erd => Sys2Proof.Machine.execNotL erd s
  | .shalB rd => Sys2Proof.Machine.execShalB rd s
  | .shalW rd => Sys2Proof.Machine.execShalW rd s
  | .shalL erd => Sys2Proof.Machine.execShalL erd s
  | .sharB rd => Sys2Proof.Machine.execSharB rd s
  | .sharW rd => Sys2Proof.Machine.execSharW rd s
  | .sharL erd => Sys2Proof.Machine.execSharL erd s
  | .shllB rd => Sys2Proof.Machine.execShllB rd s
  | .shllW rd => Sys2Proof.Machine.execShllW rd s
  | .shllL erd => Sys2Proof.Machine.execShllL erd s
  | .shlrB rd => Sys2Proof.Machine.execShlrB rd s
  | .shlrW rd => Sys2Proof.Machine.execShlrW rd s
  | .shlrL erd => Sys2Proof.Machine.execShlrL erd s
  | .rotlB rd => Sys2Proof.Machine.execRotlB rd s
  | .rotlW rd => Sys2Proof.Machine.execRotlW rd s
  | .rotlL erd => Sys2Proof.Machine.execRotlL erd s
  | .rotrB rd => Sys2Proof.Machine.execRotrB rd s
  | .rotrW rd => Sys2Proof.Machine.execRotrW rd s
  | .rotrL erd => Sys2Proof.Machine.execRotrL erd s
  | .rotxlB rd => Sys2Proof.Machine.execRotxlB rd s
  | .rotxlW rd => Sys2Proof.Machine.execRotxlW rd s
  | .rotxlL erd => Sys2Proof.Machine.execRotxlL erd s
  | .rotxrB rd => Sys2Proof.Machine.execRotxrB rd s
  | .rotxrW rd => Sys2Proof.Machine.execRotxrW rd s
  | .rotxrL erd => Sys2Proof.Machine.execRotxrL erd s
  | .bsetImmReg imm rd => Sys2Proof.Machine.execBsetImmReg imm rd s
  | .bsetImmInd imm erd => Sys2Proof.Machine.execBsetImmInd imm erd s
  | .bsetImmAbs imm aa => Sys2Proof.Machine.execBsetImmAbs imm aa s
  | .bsetRegReg rn rd => Sys2Proof.Machine.execBsetRegReg rn rd s
  | .bsetRegInd rn erd => Sys2Proof.Machine.execBsetRegInd rn erd s
  | .bsetRegAbs rn aa => Sys2Proof.Machine.execBsetRegAbs rn aa s
  | .bclrImmReg imm rd => Sys2Proof.Machine.execBclrImmReg imm rd s
  | .bclrImmInd imm erd => Sys2Proof.Machine.execBclrImmInd imm erd s
  | .bclrImmAbs imm aa => Sys2Proof.Machine.execBclrImmAbs imm aa s
  | .bclrRegReg rn rd => Sys2Proof.Machine.execBclrRegReg rn rd s
  | .bclrRegInd rn erd => Sys2Proof.Machine.execBclrRegInd rn erd s
  | .bclrRegAbs rn aa => Sys2Proof.Machine.execBclrRegAbs rn aa s
  | .bnotImmReg imm rd => Sys2Proof.Machine.execBnotImmReg imm rd s
  | .bnotImmInd imm erd => Sys2Proof.Machine.execBnotImmInd imm erd s
  | .bnotImmAbs imm aa => Sys2Proof.Machine.execBnotImmAbs imm aa s
  | .bnotRegReg rn rd => Sys2Proof.Machine.execBnotRegReg rn rd s
  | .bnotRegInd rn erd => Sys2Proof.Machine.execBnotRegInd rn erd s
  | .bnotRegAbs rn aa => Sys2Proof.Machine.execBnotRegAbs rn aa s
  | .btstImmReg imm rd => Sys2Proof.Machine.execBtstImmReg imm rd s
  | .btstImmInd imm erd => Sys2Proof.Machine.execBtstImmInd imm erd s
  | .btstImmAbs imm aa => Sys2Proof.Machine.execBtstImmAbs imm aa s
  | .btstRegReg rn rd => Sys2Proof.Machine.execBtstRegReg rn rd s
  | .btstRegInd rn erd => Sys2Proof.Machine.execBtstRegInd rn erd s
  | .btstRegAbs rn aa => Sys2Proof.Machine.execBtstRegAbs rn aa s
  | .bandReg imm rd => Sys2Proof.Machine.execBandReg imm rd s
  | .bandInd imm erd => Sys2Proof.Machine.execBandInd imm erd s
  | .bandAbs imm aa => Sys2Proof.Machine.execBandAbs imm aa s
  | .biandReg imm rd => Sys2Proof.Machine.execBiandReg imm rd s
  | .biandInd imm erd => Sys2Proof.Machine.execBiandInd imm erd s
  | .biandAbs imm aa => Sys2Proof.Machine.execBiandAbs imm aa s
  | .borReg imm rd => Sys2Proof.Machine.execBorReg imm rd s
  | .borInd imm erd => Sys2Proof.Machine.execBorInd imm erd s
  | .borAbs imm aa => Sys2Proof.Machine.execBorAbs imm aa s
  | .biorReg imm rd => Sys2Proof.Machine.execBiorReg imm rd s
  | .biorInd imm erd => Sys2Proof.Machine.execBiorInd imm erd s
  | .biorAbs imm aa => Sys2Proof.Machine.execBiorAbs imm aa s
  | .bxorReg imm rd => Sys2Proof.Machine.execBxorReg imm rd s
  | .bxorInd imm erd => Sys2Proof.Machine.execBxorInd imm erd s
  | .bxorAbs imm aa => Sys2Proof.Machine.execBxorAbs imm aa s
  | .bixorReg imm rd => Sys2Proof.Machine.execBixorReg imm rd s
  | .bixorInd imm erd => Sys2Proof.Machine.execBixorInd imm erd s
  | .bixorAbs imm aa => Sys2Proof.Machine.execBixorAbs imm aa s
  | .bldReg imm rd => Sys2Proof.Machine.execBldReg imm rd s
  | .bldInd imm erd => Sys2Proof.Machine.execBldInd imm erd s
  | .bldAbs imm aa => Sys2Proof.Machine.execBldAbs imm aa s
  | .bildReg imm rd => Sys2Proof.Machine.execBildReg imm rd s
  | .bildInd imm erd => Sys2Proof.Machine.execBildInd imm erd s
  | .bildAbs imm aa => Sys2Proof.Machine.execBildAbs imm aa s
  | .bstReg imm rd => Sys2Proof.Machine.execBstReg imm rd s
  | .bstInd imm erd => Sys2Proof.Machine.execBstInd imm erd s
  | .bstAbs imm aa => Sys2Proof.Machine.execBstAbs imm aa s
  | .bistReg imm rd => Sys2Proof.Machine.execBistReg imm rd s
  | .bistInd imm erd => Sys2Proof.Machine.execBistInd imm erd s
  | .bistAbs imm aa => Sys2Proof.Machine.execBistAbs imm aa s
  | .bra disp => Sys2Proof.Machine.execBra disp s
  | .brn disp => Sys2Proof.Machine.execBrn disp s
  | .bhi disp => Sys2Proof.Machine.execBhi disp s
  | .bls disp => Sys2Proof.Machine.execBls disp s
  | .bcc disp => Sys2Proof.Machine.execBcc disp s
  | .bcs disp => Sys2Proof.Machine.execBcs disp s
  | .bne disp => Sys2Proof.Machine.execBne disp s
  | .beq disp => Sys2Proof.Machine.execBeq disp s
  | .bvc disp => Sys2Proof.Machine.execBvc disp s
  | .bvs disp => Sys2Proof.Machine.execBvs disp s
  | .bpl disp => Sys2Proof.Machine.execBpl disp s
  | .bmi disp => Sys2Proof.Machine.execBmi disp s
  | .bge disp => Sys2Proof.Machine.execBge disp s
  | .blt disp => Sys2Proof.Machine.execBlt disp s
  | .bgt disp => Sys2Proof.Machine.execBgt disp s
  | .ble disp => Sys2Proof.Machine.execBle disp s
  | .jmpInd ern => Sys2Proof.Machine.execJmpInd ern s
  | .jmpAbs aa => Sys2Proof.Machine.execJmpAbs aa s
  | .jmpMem aa => Sys2Proof.Machine.execJmpMem aa s
  | .bsr disp => Sys2Proof.Machine.execBsr disp s
  | .jsrInd ern => Sys2Proof.Machine.execJsrInd ern s
  | .jsrAbs aa => Sys2Proof.Machine.execJsrAbs aa s
  | .jsrMem aa => Sys2Proof.Machine.execJsrMem aa s
  | .ldcBImm imm => Sys2Proof.Machine.execLdcBImm imm s
  | .ldcBReg rs => Sys2Proof.Machine.execLdcBReg rs s
  | .ldcWInd ers => Sys2Proof.Machine.execLdcWInd ers s
  | .ldcWD16 disp ers => Sys2Proof.Machine.execLdcWD16 disp ers s
  | .ldcWD24 disp ers => Sys2Proof.Machine.execLdcWD24 disp ers s
  | .ldcWInc ers => Sys2Proof.Machine.execLdcWInc ers s
  | .ldcWA16 aa => Sys2Proof.Machine.execLdcWA16 aa s
  | .ldcWA24 aa => Sys2Proof.Machine.execLdcWA24 aa s
  | .stcBReg rd => Sys2Proof.Machine.execStcBReg rd s
  | .stcWInd erd => Sys2Proof.Machine.execStcWInd erd s
  | .stcWD16 disp erd => Sys2Proof.Machine.execStcWD16 disp erd s
  | .stcWD24 disp erd => Sys2Proof.Machine.execStcWD24 disp erd s
  | .stcWDec erd => Sys2Proof.Machine.execStcWDec erd s
  | .stcWA16 aa => Sys2Proof.Machine.execStcWA16 aa s
  | .stcWA24 aa => Sys2Proof.Machine.execStcWA24 aa s
  | .andc imm => Sys2Proof.Machine.execAndc imm s
  | .orc imm => Sys2Proof.Machine.execOrc imm s
  | .xorc imm => Sys2Proof.Machine.execXorc imm s
  | .rts => Sys2Proof.Machine.execRts s
  | .rte => Sys2Proof.Machine.execRte s
  | .trapa0 => Sys2Proof.Machine.execTrapa0 s
  | .trapa1 => Sys2Proof.Machine.execTrapa1 s
  | .trapa2 => Sys2Proof.Machine.execTrapa2 s
  | .trapa3 => Sys2Proof.Machine.execTrapa3 s
  | .sleep => Sys2Proof.Machine.execSleep s
  | .nop => Sys2Proof.Machine.execNop s
  | .eepmovB => Sys2Proof.Machine.execEepmovB s
  | .eepmovW => Sys2Proof.Machine.execEepmovW s

end Sys2Proof.Machine
end

