-- ==== Sys2Proof/Machine/Boundary.lean ====
section
/-! DEFINITION. The instruction boundary: fetching, the choice among the pending requests, and the events of the
outside world (R353, R362 to R365, R376 to R383). -/

namespace Sys2Proof.Machine

/-! ## Fetch -/

/-- The address of byte `k` of the instruction at the pc (R25, R59, D9). -/
def State.fetchAddr (s : State) (k : Nat) : Addr := s.byteAddr (s.evenAddr s.pc + BitVec.ofNat 24 k)

/-- The ten bytes at the pc, as memory stands now (R73): the longest instruction has ten (R80). -/
def State.fetchBytes (s : State) : List Byte :=
  [s.peek (s.fetchAddr 0), s.peek (s.fetchAddr 1), s.peek (s.fetchAddr 2), s.peek (s.fetchAddr 3),
    s.peek (s.fetchAddr 4), s.peek (s.fetchAddr 5), s.peek (s.fetchAddr 6), s.peek (s.fetchAddr 7),
    s.peek (s.fetchAddr 8), s.peek (s.fetchAddr 9)]

/-- The instruction at the pc. -/
def State.fetch (s : State) : Option Instr := decode s.fetchBytes

/-- Runs the instruction at the pc (step 4 of R353), the inhibit of the boundary before it being used up; `cut` is the
byte after which an NMI arrives, if it is an EEPMOV.W. The inhibit holds for the boundary only: an EEPMOV.W that directly
follows LDC, ANDC, ORC, XORC or reset is cut like any other (R342), where R40 may be read as ending the inhibit only at its end:
DESIGN CHOICE, log 20. An undefined encoding is refused (R107, U4). -/
def runInstruction (cut : Option Nat) (s : State) : Result :=
  match s.fetch with
  | some i => exec i { s with irqInhibit := false, nmiCut := cut }
  | none => .refused .undefinedInstruction

/-! ## Requests -/

/-- The mask test (R363). -/
def State.accepts (s : State) (r : IrqRequest) : Bool :=
  r.nmi || !s.ccr.i || (s.cfg.uiIsMask && s.cfg.uiAdmits.contains (s.ccr.ui, r.tag))

/-- `q` has a higher priority than `r` (R364): NMI first, then the platform's order of tags; tags the order does not
name come last, and equal ones are in the order presented (log 18). -/
def State.outranks (s : State) (q r : IrqRequest) : Bool :=
  if q.nmi = r.nmi then s.cfg.irqPriority.idxOf q.tag < s.cfg.irqPriority.idxOf r.tag else q.nmi

/-- The accepted request of the highest priority (R353 step 3). -/
def State.select (s : State) : List IrqRequest → Option IrqRequest
  | [] => none
  | r :: rs =>
    match s.select rs with
    | none => if s.accepts r then some r else none
    | some q => if s.accepts r && !s.outranks q r then some r else some q

/-- The vector number of a request (R356, R362). -/
def State.vectorOf (s : State) (r : IrqRequest) : Nat := if r.nmi then s.cfg.nmiVector else r.v

/-- The boundary check of R353 with the requests pending, and what follows: an exception entry with saved PC = pc, or
one instruction. In sleep and software standby only an accepted request does anything (R383). -/
def boundary (pending : List IrqRequest) (cut : Option Nat) (s : State) : Result :=
  match s.pstate with
  | .programExecution =>
    if s.irqInhibit then runInstruction cut s
    else
      match s.select pending with
      | some r => takeException (s.vectorOf r) s.pc s
      | none => runInstruction cut s
  | .sleep =>
    match s.select pending with
    | some r => takeException (s.vectorOf r) s.pc s
    | none => .next s
  | .softwareStandby =>
    match s.select (pending.filter IrqRequest.wakes) with
    | some r => takeException (s.vectorOf r) s.pc s
    | none => .next s
  | .exceptionHandling => .next (resetException s)
  | .hardwareStandby => .next s
  | .resetState => .next s
  | .busReleased => .next s

/-! ## Events -/

/-- The bytes the aborted instruction may have written become free (R390, D22). -/
def State.clobber (s : State) : List Nat → State
  | [] => s
  | a :: t => (s.pokeFree (s.byteAddr (BitVec.ofNat 24 a))).clobber t

/-- The bytes another bus master wrote (R377, D21). -/
def State.busWrites (s : State) : List Host.Cell → State
  | [] => s
  | (a, b) :: t => (s.poke (s.byteAddr (BitVec.ofNat 24 a)) b).busWrites t

/-- RES low: the reset state, from any state but hardware standby (R376, R378); what peripheral registers then hold is the
product's (R390). -/
def resLow (aborted : List Nat) (s : State) : State :=
  match s.pstate with
  | .hardwareStandby => s
  | _ => { ((s.clobber aborted).setI).noted .outside with pstate := .resetState }

/-- RES low to high: reset exception handling is about to run (R376, R369). -/
def resHigh (s : State) : State :=
  match s.pstate with
  | .resetState => { s with pstate := .exceptionHandling }
  | _ => s

/-- STBY low: hardware standby, from any state; the CPU's registers are lost, the peripheral modules reset (R376, R382,
U13). -/
def stbyLow (s : State) : State := { s.loseRegisters.noted .outside with pstate := .hardwareStandby }

/-- STBY high while RES is low: the reset state (R376, R378). -/
def stbyHigh (s : State) : State :=
  match s.pstate with
  | .hardwareStandby => { s.setI with pstate := .resetState }
  | _ => s

/-- The bus is given up (R376, R377). -/
def busRequest (s : State) : State :=
  match s.pstate with
  | .programExecution => { s with pstate := .busReleased }
  | _ => s

/-- The bus comes back; memory is as the other master left it (R377, D21). -/
def busReturn (writes : List Host.Cell) (s : State) : State :=
  match s.pstate with
  | .busReleased => { (s.busWrites writes).noted .outside with pstate := .programExecution }
  | _ => s

/-- What one event does (R376). An event R376 does not list for the present state changes nothing (log 21). -/
def onEvent (e : Event) (s : State) : Result :=
  match e with
  | .requests pending cut => boundary pending cut s
  | .resLow aborted => .next (resLow aborted s)
  | .resHigh => .next (resHigh s)
  | .stbyLow => .next (stbyLow s)
  | .stbyHigh => .next (stbyHigh s)
  | .busRequest => .next (busRequest s)
  | .busReturn writes => .next (busReturn writes s)

/-! ## Placing an instruction where it is fetched -/

/-- Memory with bytes placed at the fetch addresses from number `k` on. -/
def State.place (s : State) : Nat → List Byte → Memory → Memory
  | _, [], m => m
  | k, b :: t, m => s.place (k + 1) t (m.write (s.fetchAddr k).toNat b)

/-- A range holds an address of the ten bytes at the pc. -/
def State.meetsFetch (s : State) (r : Region) : Bool :=
  (List.range 10).any fun k => decide (r.lo ≤ (s.fetchAddr k).toNat ∧ (s.fetchAddr k).toNat ≤ r.hi)

/-- A range of addresses without memory behind it would hide an address of the instruction at the pc. -/
def State.hidesFetch (s : State) (r : Region) : Bool :=
  match r.kind with
  | .rom => false
  | .vacant _ => s.meetsFetch r
  | .device _ => s.meetsFetch r

/-- The state with ten bytes at the pc, running a program, with no event in store. -/
def State.placeCode (s : State) (bs : List Byte) : State :=
  { s with
    mem := s.place 0 bs s.mem
    cfg := { s.cfg with memMap := s.cfg.memMap.filter fun r => !s.hidesFetch r }
    pstate := .programExecution
    inputs := [] }

end Sys2Proof.Machine
end

