-- ==== Sys2Proof/Machine/Step.lean ====
section
/-! DEFINITION. One step: the next event of the outside world, or an instruction boundary with no request. -/

namespace Sys2Proof.Machine

/-- One step of the machine (R353, R376): it consumes the next event, if there is one. -/
def step (s : State) : Host.Outcome State Fault Refusal :=
  match s.inputs with
  | [] => boundary [] none s
  | e :: rest => onEvent e { s with inputs := rest }

/-- The state with the instruction whose bits are `w`, numbered as spec/opcode_table.json numbers them, stored where
the next step fetches, so that the next step runs it (log 3, log 27). -/
def State.withFetchWord (s : State) (nbits w : Nat) : State := s.placeCode (tableBytes nbits w)

end Sys2Proof.Machine
end

