-- ==== Sys2Proof/WellFormed.lean ====
section
/-! DEFINITION. The well-formed instructions: those whose words the decoder reads back as them. Every field value is
an instruction (R108) but for the words that have a second name: MOV.W and MOV.L with @ER7+ or @-ER7 are POP and
PUSH (R111, R131, R138; log 28). -/

namespace Sys2Proof

/-- Not ER7. -/
def RegNum.notSp : RegNum → Bool
  | .r7 => false
  | .r0 => true
  | .r1 => true
  | .r2 => true
  | .r3 => true
  | .r4 => true
  | .r5 => true
  | .r6 => true

/-- The instruction is the one its words are read as. -/
def Instr.wellFormed : Instr → Bool
  | .movBRR _ _ => true
  | .movWRR _ _ => true
  | .movLRR _ _ => true
  | .movBImm _ _ => true
  | .movWImm _ _ => true
  | .movLImm _ _ => true
  | .movBLdInd _ _ => true
  | .movWLdInd _ _ => true
  | .movLLdInd _ _ => true
  | .movBLdD16 _ _ _ => true
  | .movWLdD16 _ _ _ => true
  | .movLLdD16 _ _ _ => true
  | .movBLdD24 _ _ _ => true
  | .movWLdD24 _ _ _ => true
  | .movLLdD24 _ _ _ => true
  | .movBLdInc _ _ => true
  | .movWLdInc ers _ => ers.notSp
  | .movLLdInc ers _ => ers.notSp
  | .movBLdA8 _ _ => true
  | .movBLdA16 _ _ => true
  | .movWLdA16 _ _ => true
  | .movLLdA16 _ _ => true
  | .movBLdA24 _ _ => true
  | .movWLdA24 _ _ => true
  | .movLLdA24 _ _ => true
  | .movBStInd _ _ => true
  | .movWStInd _ _ => true
  | .movLStInd _ _ => true
  | .movBStD16 _ _ _ => true
  | .movWStD16 _ _ _ => true
  | .movLStD16 _ _ _ => true
  | .movBStD24 _ _ _ => true
  | .movWStD24 _ _ _ => true
  | .movLStD24 _ _ _ => true
  | .movBStDec _ _ => true
  | .movWStDec _ erd => erd.notSp
  | .movLStDec _ erd => erd.notSp
  | .movBStA8 _ _ => true
  | .movBStA16 _ _ => true
  | .movWStA16 _ _ => true
  | .movLStA16 _ _ => true
  | .movBStA24 _ _ => true
  | .movWStA24 _ _ => true
  | .movLStA24 _ _ => true
  | .movfpe _ _ => true
  | .movtpe _ _ => true
  | .popW _ => true
  | .popL _ => true
  | .pushW _ => true
  | .pushL _ => true
  | .addBImm _ _ => true
  | .addBReg _ _ => true
  | .addWImm _ _ => true
  | .addWReg _ _ => true
  | .addLImm _ _ => true
  | .addLReg _ _ => true
  | .subBReg _ _ => true
  | .subWImm _ _ => true
  | .subWReg _ _ => true
  | .subLImm _ _ => true
  | .subLReg _ _ => true
  | .addxImm _ _ => true
  | .addxReg _ _ => true
  | .subxImm _ _ => true
  | .subxReg _ _ => true
  | .incB _ => true
  | .incW1 _ => true
  | .incW2 _ => true
  | .incL1 _ => true
  | .incL2 _ => true
  | .decB _ => true
  | .decW1 _ => true
  | .decW2 _ => true
  | .decL1 _ => true
  | .decL2 _ => true
  | .adds1 _ => true
  | .adds2 _ => true
  | .adds4 _ => true
  | .subs1 _ => true
  | .subs2 _ => true
  | .subs4 _ => true
  | .daa _ => true
  | .das _ => true
  | .mulxuB _ _ => true
  | .mulxuW _ _ => true
  | .mulxsB _ _ => true
  | .mulxsW _ _ => true
  | .divxuB _ _ => true
  | .divxuW _ _ => true
  | .divxsB _ _ => true
  | .divxsW _ _ => true
  | .cmpBImm _ _ => true
  | .cmpBReg _ _ => true
  | .cmpWImm _ _ => true
  | .cmpWReg _ _ => true
  | .cmpLImm _ _ => true
  | .cmpLReg _ _ => true
  | .negB _ => true
  | .negW _ => true
  | .negL _ => true
  | .extsW _ => true
  | .extsL _ => true
  | .extuW _ => true
  | .extuL _ => true
  | .andBImm _ _ => true
  | .andBReg _ _ => true
  | .andWImm _ _ => true
  | .andWReg _ _ => true
  | .andLImm _ _ => true
  | .andLReg _ _ => true
  | .orBImm _ _ => true
  | .orBReg _ _ => true
  | .orWImm _ _ => true
  | .orWReg _ _ => true
  | .orLImm _ _ => true
  | .orLReg _ _ => true
  | .xorBImm _ _ => true
  | .xorBReg _ _ => true
  | .xorWImm _ _ => true
  | .xorWReg _ _ => true
  | .xorLImm _ _ => true
  | .xorLReg _ _ => true
  | .notB _ => true
  | .notW _ => true
  | .notL _ => true
  | .shalB _ => true
  | .shalW _ => true
  | .shalL _ => true
  | .sharB _ => true
  | .sharW _ => true
  | .sharL _ => true
  | .shllB _ => true
  | .shllW _ => true
  | .shllL _ => true
  | .shlrB _ => true
  | .shlrW _ => true
  | .shlrL _ => true
  | .rotlB _ => true
  | .rotlW _ => true
  | .rotlL _ => true
  | .rotrB _ => true
  | .rotrW _ => true
  | .rotrL _ => true
  | .rotxlB _ => true
  | .rotxlW _ => true
  | .rotxlL _ => true
  | .rotxrB _ => true
  | .rotxrW _ => true
  | .rotxrL _ => true
  | .bsetImmReg _ _ => true
  | .bsetImmInd _ _ => true
  | .bsetImmAbs _ _ => true
  | .bsetRegReg _ _ => true
  | .bsetRegInd _ _ => true
  | .bsetRegAbs _ _ => true
  | .bclrImmReg _ _ => true
  | .bclrImmInd _ _ => true
  | .bclrImmAbs _ _ => true
  | .bclrRegReg _ _ => true
  | .bclrRegInd _ _ => true
  | .bclrRegAbs _ _ => true
  | .bnotImmReg _ _ => true
  | .bnotImmInd _ _ => true
  | .bnotImmAbs _ _ => true
  | .bnotRegReg _ _ => true
  | .bnotRegInd _ _ => true
  | .bnotRegAbs _ _ => true
  | .btstImmReg _ _ => true
  | .btstImmInd _ _ => true
  | .btstImmAbs _ _ => true
  | .btstRegReg _ _ => true
  | .btstRegInd _ _ => true
  | .btstRegAbs _ _ => true
  | .bandReg _ _ => true
  | .bandInd _ _ => true
  | .bandAbs _ _ => true
  | .biandReg _ _ => true
  | .biandInd _ _ => true
  | .biandAbs _ _ => true
  | .borReg _ _ => true
  | .borInd _ _ => true
  | .borAbs _ _ => true
  | .biorReg _ _ => true
  | .biorInd _ _ => true
  | .biorAbs _ _ => true
  | .bxorReg _ _ => true
  | .bxorInd _ _ => true
  | .bxorAbs _ _ => true
  | .bixorReg _ _ => true
  | .bixorInd _ _ => true
  | .bixorAbs _ _ => true
  | .bldReg _ _ => true
  | .bldInd _ _ => true
  | .bldAbs _ _ => true
  | .bildReg _ _ => true
  | .bildInd _ _ => true
  | .bildAbs _ _ => true
  | .bstReg _ _ => true
  | .bstInd _ _ => true
  | .bstAbs _ _ => true
  | .bistReg _ _ => true
  | .bistInd _ _ => true
  | .bistAbs _ _ => true
  | .bra _ => true
  | .brn _ => true
  | .bhi _ => true
  | .bls _ => true
  | .bcc _ => true
  | .bcs _ => true
  | .bne _ => true
  | .beq _ => true
  | .bvc _ => true
  | .bvs _ => true
  | .bpl _ => true
  | .bmi _ => true
  | .bge _ => true
  | .blt _ => true
  | .bgt _ => true
  | .ble _ => true
  | .jmpInd _ => true
  | .jmpAbs _ => true
  | .jmpMem _ => true
  | .bsr _ => true
  | .jsrInd _ => true
  | .jsrAbs _ => true
  | .jsrMem _ => true
  | .ldcBImm _ => true
  | .ldcBReg _ => true
  | .ldcWInd _ => true
  | .ldcWD16 _ _ => true
  | .ldcWD24 _ _ => true
  | .ldcWInc _ => true
  | .ldcWA16 _ => true
  | .ldcWA24 _ => true
  | .stcBReg _ => true
  | .stcWInd _ => true
  | .stcWD16 _ _ => true
  | .stcWD24 _ _ => true
  | .stcWDec _ => true
  | .stcWA16 _ => true
  | .stcWA24 _ => true
  | .andc _ => true
  | .orc _ => true
  | .xorc _ => true
  | .rts => true
  | .rte => true
  | .trapa0 => true
  | .trapa1 => true
  | .trapa2 => true
  | .trapa3 => true
  | .sleep => true
  | .nop => true
  | .eepmovB => true
  | .eepmovW => true

end Sys2Proof
end

