-- ==== Sys2Proof/Safety.lean ====
section
/-! DEFINITION. What claims call safe: the invariant of the machine's state, a run that does not stop, and the words
in which claims say what an instruction changed and what it kept. -/

namespace Sys2Proof.Machine

/-- The invariant every step keeps: memory is in its canonical form (so that equal memories are equal data), and
the pc is even and inside the mode's address space (R25, R27). -/
abbrev State.inv (s : State) : Prop := s.mem.wf ∧ s.evenAddr s.pc = s.pc

/-- The refusals the spec itself names (spec/93_implementation_defined.md: U4, U8, U9, U10). -/
def specRefusals : List Refusal :=
  [.undefinedInstruction, .storeIntoPrefetchedWord, .oddStackPointer, .eclockNotAvailable]

/-- The bytes begin no instruction, whatever follows them (R107). -/
def noInstr (bs : List Byte) : Prop := ∀ tail, decode (bs ++ tail) = none

/-- The outcome is a next state. -/
def goesOn (o : Result) : Prop := ∃ t, o = .next t

/-- `k` steps go on: the run stays inside what the spec defines. -/
def staysDefined : Nat → State → Prop
  | 0, _ => True
  | k + 1, s => ∃ t, step s = .next t ∧ staysDefined k t

/-! ## What changed from `s` to `t` -/

/-- The 8-bit register `rd` holds `v`; every other 8-bit register and every En holds what it held (R21). -/
def wrote8 (rd : Reg8) (v : Byte) (s t : State) : Prop :=
  t.reg8 rd = v ∧ (∀ r, r ≠ rd → t.reg8 r = s.reg8 r) ∧
    ∀ n, t.reg16 { ext := true, n := n } = s.reg16 { ext := true, n := n }

/-- The 16-bit register `rd` holds `v`; every other 16-bit register (the sixteen are all of ER0 to ER7) holds what it
held (R21). -/
def wrote16 (rd : Reg16) (v : Word) (s t : State) : Prop :=
  t.reg16 rd = v ∧ ∀ r, r ≠ rd → t.reg16 r = s.reg16 r

/-- `ERd` holds `v`; every other general register holds what it held. -/
def wrote32 (erd : RegNum) (v : Long) (s t : State) : Prop :=
  t.reg32 erd = v ∧ ∀ r, r ≠ erd → t.reg32 r = s.reg32 r

/-- Every general register holds what it held. -/
def keptRegs (s t : State) : Prop := ∀ r, t.reg32 r = s.reg32 r

/-- No data access was made, and every byte of the address space reads as it did. An instruction that reads memory is
compared with the state after its reads (`State.sawByte` and its like), so that the claim says which reads it made, in
which order, and that it made no other (R63). -/
def keptMemory (s t : State) : Prop := t.trace = s.trace ∧ ∀ b, t.peek b = s.peek b

/-- One byte access wrote `v` at `a`: the byte there reads as `v` where it is RAM; every other byte reads as it did, a
peripheral register or an open address apart (R56, R63, R66). -/
def stored8 (a : Addr) (v : Byte) (s t : State) : Prop :=
  t.trace = .writeByte (s.byteAddr a) v :: s.trace ∧
  ∀ b, s.steady b = true → t.peek b = if b = s.byteAddr a ∧ s.writable b = true then v else s.peek b

/-- One word access wrote `v` at `a`: its two bytes read as `v`, high byte first, where they are RAM; every other byte
reads as it did, a peripheral register or an open address apart (R54, R57, R63, R66). -/
def stored16 (a : Addr) (v : Word) (s t : State) : Prop :=
  t.trace = .writeWord (s.evenAddr a) v :: s.trace ∧
  ∀ b, s.steady b = true → t.peek b =
    if b = s.evenAddr a ∧ s.writable b = true then v.extractLsb' 8 8
    else if b = s.evenAddr a + 1#24 ∧ s.writable b = true then v.extractLsb' 0 8
    else s.peek b

/-- The four bytes of the long word at `a`, which is the words at `a` and `a + 2`, read as `v`, the highest byte first,
where they are RAM; every other byte reads as it did, a peripheral register or an open address apart (R54, R58, R66). -/
def holds32 (a : Addr) (v : Long) (s t : State) : Prop :=
  ∀ b, s.steady b = true → t.peek b =
    if b = s.evenAddr a ∧ s.writable b = true then v.extractLsb' 24 8
    else if b = s.evenAddr a + 1#24 ∧ s.writable b = true then v.extractLsb' 16 8
    else if b = s.evenAddr (a + 2#24) ∧ s.writable b = true then v.extractLsb' 8 8
    else if b = s.evenAddr (a + 2#24) + 1#24 ∧ s.writable b = true then v.extractLsb' 0 8
    else s.peek b

/-- Two word accesses wrote the long word `v` at `a`, the word at `a` first (R58, R63). -/
def stored32 (a : Addr) (v : Long) (s t : State) : Prop :=
  t.trace = .writeWord (s.evenAddr (a + 2#24)) (v.extractLsb' 0 16) ::
    .writeWord (s.evenAddr a) (v.extractLsb' 16 16) :: s.trace ∧ holds32 a v s t

/-- Two word accesses wrote the long word `v` at `a`, the word at `a + 2` first: the order of PUSH.L and of the stack
frames (R58, R63, R153, R358). -/
def stored32LowFirst (a : Addr) (v : Long) (s t : State) : Prop :=
  t.trace = .writeWord (s.evenAddr a) (v.extractLsb' 16 16) ::
    .writeWord (s.evenAddr (a + 2#24)) (v.extractLsb' 0 16) :: s.trace ∧ holds32 a v s t

/-- The state outside the registers, the CCR, the pc, memory and the accesses made is as it was, but for the count of free
values, which grew by `drawn`. -/
def keptRest (drawn : Nat) (s t : State) : Prop :=
  t.pstate = s.pstate ∧ t.irqInhibit = s.irqInhibit ∧ t.cfg = s.cfg ∧ t.inputs = s.inputs ∧
    t.nmiCut = s.nmiCut ∧ t.draws = s.draws + drawn

/-- What an instruction of `len` bytes with a register destination keeps: memory and the rest; the pc is at `next`. Of a
loading instruction `s` is the state after its reads. -/
def keptButRegs (len : Nat) (s t : State) : Prop :=
  t.pc = s.nextPc len ∧ keptMemory s t ∧ keptRest 0 s t

/-- What a storing instruction of `len` bytes keeps: the general registers and the rest; the pc is at `next`. -/
def keptButMemory (len : Nat) (s t : State) : Prop :=
  t.pc = s.nextPc len ∧ keptRegs s t ∧ keptRest 0 s t

/-- The flags of R121 and R220: N and Z of the datum, V cleared, the other five bits as they were. -/
def movedFlags {w : Nat} (v : BitVec w) (s t : State) : Prop :=
  t.ccr = { s.ccr with n := v.msb, z := decide (v = 0#w), v := false }

/-- The flags H, N, Z, V, C of an addition or subtraction (R160); I, UI, U as they were. -/
def arithFlags {w : Nat} (o : AluOut w) (s t : State) : Prop :=
  t.ccr = { s.ccr with h := o.h, n := o.n, z := o.z, v := o.v, c := o.c }

/-- The conditions of the last column of R291: after `CMP Y,X` the CCR orders X against Y, unsigned and signed. -/
def ordered {w : Nat} (x y : BitVec w) (c : Ccr) : Prop :=
  Cond.hi.holds c = decide (y.toNat < x.toNat) ∧ Cond.ls.holds c = decide (x.toNat ≤ y.toNat) ∧
  Cond.cc.holds c = decide (y.toNat ≤ x.toNat) ∧ Cond.cs.holds c = decide (x.toNat < y.toNat) ∧
  Cond.ne.holds c = decide (x ≠ y) ∧ Cond.eq.holds c = decide (x = y) ∧
  Cond.ge.holds c = decide (y.toInt ≤ x.toInt) ∧ Cond.lt.holds c = decide (x.toInt < y.toInt) ∧
  Cond.gt.holds c = decide (y.toInt < x.toInt) ∧ Cond.le.holds c = decide (x.toInt ≤ y.toInt)

/-- The address in the vector table's or branch table's entry at `p`: 16 bits in normal mode, the low 24 bits of 32 in
advanced mode (R102, R357). -/
def entryAt (p : Addr) (s : State) : Addr :=
  match s.cfg.mode with
  | .normal => (s.readWord p).setWidth 24
  | .advanced => (s.readLong p).setWidth 24

/-- The address of the vector table's entry with number `v` (R355 to R357). -/
def vectorAt (v : Nat) (s : State) : Addr :=
  match s.cfg.mode with
  | .normal => BitVec.ofNat 24 (2 * v)
  | .advanced => BitVec.ofNat 24 (4 * v)

/-- Exception handling with vector number `v` and saved PC `ret` was entered (R358 to R361): ER7 went down by 4; the
frame CCR, PC was written at the new ER7, the low word first (in normal mode with an open byte after the CCR), which gives
`m`'s memory; then the vector was read, and no other access made; I is set, UI too where it is a mask bit, no other CCR bit
changed; the pc is what the vector holds; the CPU runs the program. -/
def enteredException (v : Nat) (ret : Addr) (s t : State) : Prop :=
  let f : Addr := (s.reg32 .r7 - 4#32).setWidth 24
  let p := vectorAt v s
  wrote32 .r7 (s.reg32 .r7 - 4#32) s t ∧
  (∃ m : State, m.cfg = s.cfg ∧
    (match s.cfg.mode with
      | .normal => ∃ x : Byte, stored32LowFirst f (s.ccr.toByte ++ x ++ ret.extractLsb' 0 16) s m
      | .advanced => stored32LowFirst f (s.ccr.toByte ++ ret) s m) ∧
    keptMemory (m.sawEntry p) t ∧ t.pc = s.evenAddr (entryAt p m)) ∧
  t.ccr = { s.ccr with i := true, ui := s.cfg.uiIsMask || s.ccr.ui } ∧
  t.pstate = .programExecution ∧ t.irqInhibit = s.irqInhibit ∧ t.cfg = s.cfg ∧ t.inputs = s.inputs ∧
  t.nmiCut = s.nmiCut

end Sys2Proof.Machine
end

