-- ==== Sys2Proof/Certificates/Slice0/Obligations.lean ====
section
/-! DEFINITION. The statements for the provers. -/

open Sys2Proof Sys2Proof.Machine

/-! ## Encoding (spec/30_encoding.md) -/

/-- Every well-formed instruction is read back from its encoding, whatever follows it (R82, R86 to R90). -/
def Obligations.DecodeOfEncode : Prop :=
  ∀ (i : Instr) (tail : List Byte), i.wellFormed = true → decode (encode i ++ tail) = some i

/-- Whatever the decoder reads is well formed, and the bytes begin with its encoding: no other bytes are read as it (R107,
R112). -/
def Obligations.EncodeOfDecode : Prop :=
  ∀ (bs : List Byte) (i : Instr), decode bs = some i →
    i.wellFormed = true ∧ ∃ tail, bs = encode i ++ tail

/-- Words the spec's examples write out, one or two for each family (R122, R161, R223, R247, R264, R290, R316, R341). -/
def Obligations.SpecExampleWordsDecode : Prop :=
  decode [0x0C, 0x92] = some (.movBRR { low := true, n := .r1 } { low := false, n := .r2 }) ∧
  decode [0x78, 0x00, 0x6B, 0x21, 0x00, 0x01, 0x23, 0x40] =
    some (.movWLdD24 0x012340#24 .r0 { ext := false, n := .r1 }) ∧
  decode [0x88, 0xC8] = some (.addBImm 0xC8#8 { low := true, n := .r0 }) ∧
  decode [0x01, 0xD0, 0x51, 0x81] = some (.divxsB { low := true, n := .r0 } { ext := false, n := .r1 }) ∧
  decode [0x7A, 0x60, 0x00, 0x00, 0xFF, 0xFF] = some (.andLImm 0x0000FFFF#32 .r0) ∧
  decode [0x12, 0x0A] = some (.rotxlB { low := true, n := .r2 }) ∧
  decode [0x7F, 0xC0, 0x72, 0x70] = some (.bclrImmAbs 7#3 0xC0#8) ∧
  decode [0x46, 0xFC] = some (.bne (.d8 0xFC#8)) ∧
  decode [0x01, 0x40, 0x6D, 0x60] = some (.ldcWInc .r6) ∧
  decode [0x57, 0x20] = some .trapa2 ∧
  decode [0x7B, 0x5C, 0x59, 0x8F] = some .eepmovB

/-- A step that fetches no instruction stops by that name, and every kind of encoding R107 names as undefined is read as none,
whatever follows: the BH values R105 does not list; a fixed bit or nibble of a listed format set otherwise; a prefix with a body
not listed for it, 7C and 7E with a write-type body, 7D and 7F with a read-type body; a non-zero byte before a 24-bit address or
displacement. (R104 lists every first byte.) -/
def Obligations.UndefinedEncodingStops : Prop :=
  (∀ s : State, s.pstate = .programExecution → s.inputs = [] → s.fetch = none →
    step s = .refused .undefinedInstruction) ∧
  let high : List Nibble := [.x8, .x9, .xA, .xB, .xC, .xD, .xE, .xF]
  ∀ (h l y z : Nibble) (a b : Byte),
    -- a BH value that R105 does not list
    (∀ p ∈ ([(0x01, [.x0, .x4, .x8, .xC, .xD, .xF]), (0x0A, .x0 :: high), (0x0F, .x0 :: high), (0x1A, .x0 :: high),
        (0x1F, .x0 :: high), (0x0B, [.x0, .x5, .x7, .x8, .x9, .xD, .xF]), (0x1B, [.x0, .x5, .x7, .x8, .x9, .xD, .xF]),
        (0x10, [.x0, .x1, .x3, .x8, .x9, .xB]), (0x11, [.x0, .x1, .x3, .x8, .x9, .xB]),
        (0x12, [.x0, .x1, .x3, .x8, .x9, .xB]), (0x13, [.x0, .x1, .x3, .x8, .x9, .xB]),
        (0x17, [.x0, .x1, .x3, .x5, .x7, .x8, .x9, .xB, .xD, .xF]), (0x79, [.x0, .x1, .x2, .x3, .x4, .x5, .x6]),
        (0x7A, [.x0, .x1, .x2, .x3, .x4, .x5, .x6]), (0x6A, [.x0, .x2, .x4, .x8, .xA, .xC]),
        (0x6B, [.x0, .x2, .x8, .xA])] : List (Byte × List Nibble)),
      h ∉ p.2 → noInstr [p.1, nibs h l]) ∧
    -- in the second byte: the fixed bit above a 3-bit register or bit number, and the fixed nibbles and bytes
    (l ∈ high → ∀ p ∈ ([(0x0A, high), (0x0F, high), (0x1A, high), (0x1F, high), (0x0B, [.x0, .x7, .x8, .x9, .xF]),
        (0x1B, [.x0, .x7, .x8, .x9, .xF]), (0x10, [.x3, .xB]), (0x11, [.x3, .xB]), (0x12, [.x3, .xB]),
        (0x13, [.x3, .xB]), (0x17, [.x3, .x7, .xB, .xF]), (0x7A, [.x0, .x1, .x2, .x3, .x4, .x5, .x6])] :
        List (Byte × List Nibble)), h ∈ p.2 → noInstr [p.1, nibs h l]) ∧
    (l ∈ high → noInstr [0x52, nibs h l] ∧ noInstr [0x53, nibs h l]) ∧
    (h ∈ high → ∀ c ∈ ([0x59, 0x5D, 0x70, 0x71, 0x72, 0x73, 0x78, 0x7C, 0x7D] : List Byte), noInstr [c, nibs h l]) ∧
    (l ≠ .x0 → ∀ c ∈ ([0x01, 0x57, 0x58, 0x59, 0x5D, 0x78, 0x7C, 0x7D] : List Byte), noInstr [c, nibs h l]) ∧
    (h ∉ [.x0, .x1, .x2, .x3] → noInstr [0x57, nibs h l]) ∧
    (h ≠ .x0 → noInstr [0x02, nibs h l] ∧ noInstr [0x03, nibs h l]) ∧
    (a ≠ 0x00 → noInstr [0x00, a] ∧ noInstr [0x5C, a]) ∧
    (a ≠ 0x70 → noInstr [0x54, a] ∧ noInstr [0x56, a]) ∧
    (a ∉ [0x5C, 0xD4] → noInstr [0x7B, a]) ∧
    (b ≠ 0x59 → noInstr [0x7B, a, b]) ∧
    (b ≠ 0x8F → noInstr [0x7B, a, 0x59, b]) ∧
    -- a body that is not listed for its prefix
    (a ∉ [0x69, 0x6B, 0x6D, 0x6F, 0x78] → noInstr [0x01, 0x00, a] ∧ noInstr [0x01, 0x40, a]) ∧
    (a ∉ [0x50, 0x52] → noInstr [0x01, 0xC0, a]) ∧
    (a ∉ [0x51, 0x53] → noInstr [0x01, 0xD0, a]) ∧
    (a ∉ [0x64, 0x65, 0x66] → noInstr [0x01, 0xF0, a]) ∧
    (b ∉ [0x6A, 0x6B] → noInstr [0x78, a, b]) ∧
    (b ≠ 0x6B → noInstr [0x01, 0x00, 0x78, a, b] ∧ noInstr [0x01, 0x40, 0x78, a, b]) ∧
    (b ∉ [0x63, 0x73, 0x74, 0x75, 0x76, 0x77] → noInstr [0x7C, a, b] ∧ noInstr [0x7E, a, b]) ∧
    (b ∉ [0x60, 0x61, 0x62, 0x67, 0x70, 0x71, 0x72] → noInstr [0x7D, a, b] ∧ noInstr [0x7F, a, b]) ∧
    -- in a body: its BH values, its fixed bits and nibbles
    (h ∉ [.x0, .x2, .x8, .xA] → noInstr [0x01, 0x00, 0x6B, nibs h l] ∧ noInstr [0x01, 0x40, 0x6B, nibs h l]) ∧
    (h ∉ [.x2, .xA] → noInstr [0x78, a, 0x6A, nibs h l] ∧ noInstr [0x78, a, 0x6B, nibs h l] ∧
      noInstr [0x01, 0x40, 0x78, a, 0x6B, nibs h l]) ∧
    (l ∈ high → noInstr [0x01, 0xC0, 0x52, nibs h l] ∧ noInstr [0x01, 0xD0, 0x53, nibs h l] ∧
      ∀ c ∈ ([0x69, 0x6B, 0x6D, 0x6F] : List Byte), noInstr [0x01, 0x00, c, nibs h l]) ∧
    (h ∈ high ∨ l ∈ high → ∀ c ∈ ([0x64, 0x65, 0x66] : List Byte), noInstr [0x01, 0xF0, c, nibs h l]) ∧
    (l ≠ .x0 → ∀ c ∈ ([0x69, 0x6B, 0x6D, 0x6F, 0x78] : List Byte), noInstr [0x01, 0x40, c, nibs h l]) ∧
    (h ∈ high → noInstr [0x01, 0x40, 0x78, nibs h l]) ∧
    (l ≠ .x0 → noInstr [0x01, 0x40, 0x78, a, 0x6B, nibs h l]) ∧
    (l ≠ .x0 → noInstr [0x01, 0x00, 0x78, nibs h l]) ∧
    (h ∈ high ∧ y ≠ .xA ∨ h ∉ high ∧ y ≠ .x2 ∨ z ∈ high → noInstr [0x01, 0x00, 0x78, nibs h l, 0x6B, nibs y z]) ∧
    (l ≠ .x0 → ∀ c ∈ ([0x7C, 0x7D, 0x7E, 0x7F] : List Byte), noInstr [c, a, b, nibs h l]) ∧
    (h ∈ high → noInstr [0x7C, a, 0x73, nibs h l] ∧ noInstr [0x7E, a, 0x73, nibs h l] ∧
      ∀ c ∈ ([0x70, 0x71, 0x72] : List Byte), noInstr [0x7D, a, c, nibs h l] ∧ noInstr [0x7F, a, c, nibs h l]) ∧
    -- a non-zero byte before a 24-bit address or displacement
    (b ≠ 0 → ∀ c ∈ [nibs .x2 l, nibs .xA l],
      noInstr [0x6A, c, b] ∧ noInstr [0x6B, c, b] ∧ noInstr [0x01, 0x00, 0x6B, c, b] ∧ noInstr [0x01, 0x40, 0x6B, c, b] ∧
      noInstr [0x78, a, 0x6A, c, b] ∧ noInstr [0x78, a, 0x6B, c, b] ∧ noInstr [0x01, 0x00, 0x78, a, 0x6B, c, b] ∧
      noInstr [0x01, 0x40, 0x78, a, 0x6B, c, b])

/-! ## The step (spec/60_exceptions.md R353) -/

/-- The instruction fetched is what the decoder reads from the ten bytes memory now gives from the pc on, its bit 0 taken as 0, the
addresses modulo `2^AW` (R25, R59, R73; the wrap is D9, log 25). In the program-execution state, a step at whose boundary no
request is taken is `exec` of that instruction, on the state with the inhibit used up, the event consumed and its EEPMOV.W cut
noted; that the cut is honoured although the inhibit was set is the model's choice, log 20. -/
def Obligations.StepRunsDecodedInstruction : Prop :=
  (∀ s : State,
    let byteAt (k : Nat) : Byte := s.peek (BitVec.ofNat 24
      ((s.pc.toNat / 2 * 2 + k) % (match s.cfg.mode with | .normal => 2 ^ 16 | .advanced => 2 ^ 24)))
    s.fetch = decode [byteAt 0, byteAt 1, byteAt 2, byteAt 3, byteAt 4, byteAt 5, byteAt 6, byteAt 7, byteAt 8, byteAt 9]) ∧
  ∀ (s : State) (i : Instr), s.pstate = .programExecution → s.fetch = some i →
    (s.inputs = [] → step s = exec i { s with irqInhibit := false, nmiCut := none }) ∧
    ∀ (pending : List IrqRequest) (cut : Option Nat) (rest : List Event),
      s.inputs = .requests pending cut :: rest →
      (s.irqInhibit = true ∨ ∀ r ∈ pending, s.accepts r = false) →
      step s = exec i { s with inputs := rest, irqInhibit := false, nmiCut := cut }

/-! ## Registers, addresses, memory (spec/10_state.md, spec/20_memory.md) -/

/-- ERn is En, RnH, RnL put together, and a write to a view changes exactly the bits of that view (R21). -/
def Obligations.RegisterViews : Prop :=
  ∀ (s : State) (n : RegNum) (rd8 : Reg8) (b : Byte) (rd16 : Reg16) (w : Word) (v : Long),
    s.reg32 n = s.reg16 { ext := true, n := n } ++ s.reg8 { low := false, n := n } ++
      s.reg8 { low := true, n := n } ∧
    s.reg16 { ext := false, n := n } = s.reg8 { low := false, n := n } ++ s.reg8 { low := true, n := n } ∧
    wrote8 rd8 b s (s.setReg8 rd8 b) ∧ wrote16 rd16 w s (s.setReg16 rd16 w) ∧
    wrote32 n v s (s.setReg32 n v)

/-- Word and long accesses: big-endian, bit 0 of the address ignored, a word one access, a long the accesses to the words at
`a` and `a + 2`, in either write order; what is stored in RAM is read back (R57, R58). -/
def Obligations.WordAndLongAccess : Prop :=
  ∀ (s : State) (a : Addr) (v : Word) (l : Long), s.mem.wf →
    (s.evenAddr a).toNat = (s.byteAddr a).toNat / 2 * 2 ∧
    s.readWord a = s.peek (s.evenAddr a) ++ s.peek (s.evenAddr a + 1#24) ∧
    s.readLong a = s.readWord a ++ (s.sawWord a).readWord (a + 2#24) ∧
    (s.sawWord a).trace = .readWord (s.evenAddr a) :: s.trace ∧
    (s.sawLong a).trace = .readWord (s.evenAddr (a + 2#24)) :: .readWord (s.evenAddr a) :: s.trace ∧
    stored16 a v s (s.writeWord a v) ∧ stored32 a l s (s.writeLong a l) ∧
    stored32LowFirst a l s (s.writeLongLowFirst a l) ∧
    ((∀ b, s.writable b = true) →
      (s.writeWord a v).readWord a = v ∧ (s.writeLong a l).readLong a = l)

/-- The effective addresses of register indirect, with displacement, and absolute; the address emitted is masked to the
mode's width (R9, R95, R96, R99). -/
def Obligations.EffectiveAddresses : Prop :=
  ∀ (s : State) (n : RegNum) (d16 : BitVec 16) (d24 : BitVec 24) (aa8 : BitVec 8) (aa16 : BitVec 16)
    (a : Addr),
    (s.eaInd n).toNat = (s.reg32 n).toNat % 2 ^ 24 ∧
    ((s.eaDisp16 n d16).toNat : Int) = (((s.reg32 n).toNat : Int) + d16.toInt) % 2 ^ 24 ∧
    (s.eaDisp24 n d24).toNat = ((s.reg32 n).toNat + d24.toNat) % 2 ^ 24 ∧
    (eaAbs8 aa8).toNat = 0xFFFF00 + aa8.toNat ∧
    (eaAbs16 aa16).toNat = (if aa16.toNat < 0x8000 then aa16.toNat else 0xFF0000 + aa16.toNat) ∧
    (s.byteAddr a).toNat = a.toNat % (match s.cfg.mode with | .normal => 2 ^ 16 | .advanced => 2 ^ 24)

/-- Assigning the pc and advancing it: modulo `2^AW`, bit 0 cleared, nothing else changed (R26, R27). -/
def Obligations.PcAssignment : Prop :=
  ∀ (s : State) (a : Addr) (len : Nat),
    (s.setPc a).pc.toNat =
      a.toNat % (match s.cfg.mode with | .normal => 2 ^ 16 | .advanced => 2 ^ 24) / 2 * 2 ∧
    (s.advance len).pc.toNat =
      (s.pc.toNat + len) % (match s.cfg.mode with | .normal => 2 ^ 16 | .advanced => 2 ^ 24) / 2 * 2 ∧
    { s.setPc a with pc := s.pc } = s ∧ { s.advance len with pc := s.pc } = s

/-! ## Data transfer (spec/40_data_transfer.md) -/

/-- MOV between registers and from an immediate (R122 to R127). -/
def Obligations.MoveToRegister : Prop :=
  ∀ (s : State) (rs8 rd8 : Reg8) (rs16 rd16 : Reg16) (ers erd : RegNum) (i8 : Byte) (i16 : Word) (i32 : Long),
    (∀ p ∈ ([(.movBRR rs8 rd8, s.reg8 rs8), (.movBImm i8 rd8, i8)] : List (Instr × Byte)),
      ∃ t, exec p.1 s = .next t ∧ wrote8 rd8 p.2 s t ∧ movedFlags p.2 s t ∧ keptButRegs 2 s t) ∧
    (∀ p ∈ ([(.movWRR rs16 rd16, s.reg16 rs16, 2), (.movWImm i16 rd16, i16, 4)] :
        List (Instr × Word × Nat)),
      ∃ t, exec p.1 s = .next t ∧ wrote16 rd16 p.2.1 s t ∧ movedFlags p.2.1 s t ∧ keptButRegs p.2.2 s t) ∧
    (∀ p ∈ ([(.movLRR ers erd, s.reg32 ers, 2), (.movLImm i32 erd, i32, 6)] : List (Instr × Long × Nat)),
      ∃ t, exec p.1 s = .next t ∧ wrote32 erd p.2.1 s t ∧ movedFlags p.2.1 s t ∧ keptButRegs p.2.2 s t)

/-- Byte loads: MOV.B in its six forms that leave the address register, and MOVFPE on a product with an E clock (R128 to
R130, R132 to R134, R148). -/
def Obligations.LoadByte : Prop :=
  ∀ (s : State) (ers : RegNum) (rd : Reg8) (d16 : BitVec 16) (d24 : BitVec 24) (a8 : BitVec 8)
    (a16 : BitVec 16) (a24 : BitVec 24),
    (∀ p ∈ ([(.movBLdInd ers rd, s.eaInd ers, 2), (.movBLdD16 d16 ers rd, s.eaDisp16 ers d16, 4),
        (.movBLdD24 d24 ers rd, s.eaDisp24 ers d24, 8), (.movBLdA8 a8 rd, eaAbs8 a8, 2),
        (.movBLdA16 a16 rd, eaAbs16 a16, 4), (.movBLdA24 a24 rd, a24, 6)] : List (Instr × Addr × Nat)),
      ∃ t, exec p.1 s = .next t ∧ wrote8 rd (s.readByte p.2.1) s t ∧
        movedFlags (s.readByte p.2.1) s t ∧ keptButRegs p.2.2 (s.sawByte p.2.1) t) ∧
    (s.cfg.hasEclock = true →
      ∃ t, exec (.movfpe a16 rd) s = .next t ∧ wrote8 rd (s.readByte (eaAbs16 a16)) s t ∧
        movedFlags (s.readByte (eaAbs16 a16)) s t ∧ keptButRegs 4 (s.sawByte (eaAbs16 a16)) t)

/-- Word and long loads, the forms that leave the address register (R128 to R130, R133, R134). -/
def Obligations.LoadWordAndLong : Prop :=
  ∀ (s : State) (ers erd : RegNum) (rd : Reg16) (d16 : BitVec 16) (d24 : BitVec 24) (a16 : BitVec 16)
    (a24 : BitVec 24),
    (∀ p ∈ ([(.movWLdInd ers rd, s.eaInd ers, 2), (.movWLdD16 d16 ers rd, s.eaDisp16 ers d16, 4),
        (.movWLdD24 d24 ers rd, s.eaDisp24 ers d24, 8), (.movWLdA16 a16 rd, eaAbs16 a16, 4),
        (.movWLdA24 a24 rd, a24, 6)] : List (Instr × Addr × Nat)),
      ∃ t, exec p.1 s = .next t ∧ wrote16 rd (s.readWord p.2.1) s t ∧
        movedFlags (s.readWord p.2.1) s t ∧ keptButRegs p.2.2 (s.sawWord p.2.1) t) ∧
    (∀ p ∈ ([(.movLLdInd ers erd, s.eaInd ers, 4), (.movLLdD16 d16 ers erd, s.eaDisp16 ers d16, 6),
        (.movLLdD24 d24 ers erd, s.eaDisp24 ers d24, 10), (.movLLdA16 a16 erd, eaAbs16 a16, 6),
        (.movLLdA24 a24 erd, a24, 8)] : List (Instr × Addr × Nat)),
      ∃ t, exec p.1 s = .next t ∧ wrote32 erd (s.readLong p.2.1) s t ∧
        movedFlags (s.readLong p.2.1) s t ∧ keptButRegs p.2.2 (s.sawLong p.2.1) t)

/-- Loads with post-increment: the address register is stepped by the operand size as 32 bits, then the destination takes
the datum, also where it is part of that register (R131, R145; the order is D11, log 13). With ER7 a word or long needs an
even SP. -/
def Obligations.LoadPostIncrement : Prop :=
  ∀ (s : State) (ers erd : RegNum) (rd8 : Reg8) (rd16 : Reg16),
    (∃ t, exec (.movBLdInc ers rd8) s = .next t ∧
      wrote8 rd8 (s.readByte (s.eaInd ers)) (s.setReg32 ers (s.reg32 ers + 1#32)) t ∧
      movedFlags (s.readByte (s.eaInd ers)) s t ∧ keptButRegs 2 (s.sawByte (s.eaInd ers)) t) ∧
    ((ers = .r7 → s.spOdd = false) →
      (∃ t, exec (.movWLdInc ers rd16) s = .next t ∧
        wrote16 rd16 (s.readWord (s.eaInd ers)) (s.setReg32 ers (s.reg32 ers + 2#32)) t ∧
        movedFlags (s.readWord (s.eaInd ers)) s t ∧ keptButRegs 2 (s.sawWord (s.eaInd ers)) t) ∧
      (∃ t, exec (.movLLdInc ers erd) s = .next t ∧
        wrote32 erd (s.readLong (s.eaInd ers)) (s.setReg32 ers (s.reg32 ers + 4#32)) t ∧
        movedFlags (s.readLong (s.eaInd ers)) s t ∧ keptButRegs 4 (s.sawLong (s.eaInd ers)) t))

/-- POP (R150, R151). -/
def Obligations.PopFromStack : Prop :=
  ∀ (s : State) (rn : Reg16) (ern : RegNum), s.spOdd = false →
    (∃ t, exec (.popW rn) s = .next t ∧
      wrote16 rn (s.readWord (s.eaInd .r7)) (s.setReg32 .r7 (s.reg32 .r7 + 2#32)) t ∧
      movedFlags (s.readWord (s.eaInd .r7)) s t ∧ keptButRegs 2 (s.sawWord (s.eaInd .r7)) t) ∧
    (∃ t, exec (.popL ern) s = .next t ∧
      wrote32 ern (s.readLong (s.eaInd .r7)) (s.setReg32 .r7 (s.reg32 .r7 + 4#32)) t ∧
      movedFlags (s.readLong (s.eaInd .r7)) s t ∧ keptButRegs 4 (s.sawLong (s.eaInd .r7)) t)

/-- Byte stores: MOV.B in its six forms that leave the address register, and MOVTPE on a product with an E clock, where the
byte does not lie in the word at `next` (R135 to R137, R139 to R141, R149, R73). -/
def Obligations.StoreByte : Prop :=
  ∀ (s : State) (rs : Reg8) (erd : RegNum) (d16 : BitVec 16) (d24 : BitVec 24) (a8 : BitVec 8)
    (a16 : BitVec 16) (a24 : BitVec 24), s.mem.wf →
    (∀ p ∈ ([(.movBStInd rs erd, s.eaInd erd, 2), (.movBStD16 rs d16 erd, s.eaDisp16 erd d16, 4),
        (.movBStD24 rs d24 erd, s.eaDisp24 erd d24, 8), (.movBStA8 rs a8, eaAbs8 a8, 2),
        (.movBStA16 rs a16, eaAbs16 a16, 4), (.movBStA24 rs a24, a24, 6)] : List (Instr × Addr × Nat)),
      s.evenAddr p.2.1 ≠ s.nextPc p.2.2 →
      ∃ t, exec p.1 s = .next t ∧ stored8 p.2.1 (s.reg8 rs) s t ∧ movedFlags (s.reg8 rs) s t ∧
        keptButMemory p.2.2 s t) ∧
    (s.cfg.hasEclock = true → s.evenAddr (eaAbs16 a16) ≠ s.nextPc 4 →
      ∃ t, exec (.movtpe rs a16) s = .next t ∧ stored8 (eaAbs16 a16) (s.reg8 rs) s t ∧
        movedFlags (s.reg8 rs) s t ∧ keptButMemory 4 s t)

/-- Word and long stores, the forms that leave the address register, where no word stored to is the one at `next` (R135 to
R137, R140, R141, R73). -/
def Obligations.StoreWordAndLong : Prop :=
  ∀ (s : State) (rs : Reg16) (ers erd : RegNum) (d16 : BitVec 16) (d24 : BitVec 24) (a16 : BitVec 16)
    (a24 : BitVec 24), s.mem.wf →
    (∀ p ∈ ([(.movWStInd rs erd, s.eaInd erd, 2), (.movWStD16 rs d16 erd, s.eaDisp16 erd d16, 4),
        (.movWStD24 rs d24 erd, s.eaDisp24 erd d24, 8), (.movWStA16 rs a16, eaAbs16 a16, 4),
        (.movWStA24 rs a24, a24, 6)] : List (Instr × Addr × Nat)),
      s.evenAddr p.2.1 ≠ s.nextPc p.2.2 →
      ∃ t, exec p.1 s = .next t ∧ stored16 p.2.1 (s.reg16 rs) s t ∧ movedFlags (s.reg16 rs) s t ∧
        keptButMemory p.2.2 s t) ∧
    (∀ p ∈ ([(.movLStInd ers erd, s.eaInd erd, 4), (.movLStD16 ers d16 erd, s.eaDisp16 erd d16, 6),
        (.movLStD24 ers d24 erd, s.eaDisp24 erd d24, 10), (.movLStA16 ers a16, eaAbs16 a16, 6),
        (.movLStA24 ers a24, a24, 8)] : List (Instr × Addr × Nat)),
      s.evenAddr p.2.1 ≠ s.nextPc p.2.2 → s.evenAddr (p.2.1 + 2#24) ≠ s.nextPc p.2.2 →
      ∃ t, exec p.1 s = .next t ∧ stored32 p.2.1 (s.reg32 ers) s t ∧ movedFlags (s.reg32 ers) s t ∧
        keptButMemory p.2.2 s t)

/-- Stores with pre-decrement: ERd goes down by the operand size, then the source is read and stored at the new ERd (R138,
R146). With ER7 a word or long is PUSH's (R111): it needs an even SP, and the long's low-order word is written first (R153). -/
def Obligations.StorePreDecrement : Prop :=
  ∀ (s : State) (rs8 : Reg8) (rs16 : Reg16) (ers erd : RegNum), s.mem.wf →
    let u1 := s.setReg32 erd (s.reg32 erd - 1#32)
    let u2 := s.setReg32 erd (s.reg32 erd - 2#32)
    let u4 := s.setReg32 erd (s.reg32 erd - 4#32)
    (s.evenAddr (u1.eaInd erd) ≠ s.nextPc 2 →
      ∃ t, exec (.movBStDec rs8 erd) s = .next t ∧ stored8 (u1.eaInd erd) (u1.reg8 rs8) s t ∧
        movedFlags (u1.reg8 rs8) s t ∧ keptButMemory 2 u1 t) ∧
    ((erd = .r7 → s.spOdd = false) → s.evenAddr (u2.eaInd erd) ≠ s.nextPc 2 →
      ∃ t, exec (.movWStDec rs16 erd) s = .next t ∧ stored16 (u2.eaInd erd) (u2.reg16 rs16) s t ∧
        movedFlags (u2.reg16 rs16) s t ∧ keptButMemory 2 u2 t) ∧
    ((erd = .r7 → s.spOdd = false) → s.evenAddr (u4.eaInd erd) ≠ s.nextPc 4 →
      s.evenAddr (u4.eaInd erd + 2#24) ≠ s.nextPc 4 →
      ∃ t, exec (.movLStDec ers erd) s = .next t ∧
        (if erd = .r7 then stored32LowFirst (u4.eaInd erd) (u4.reg32 ers) s t
          else stored32 (u4.eaInd erd) (u4.reg32 ers) s t) ∧
        movedFlags (u4.reg32 ers) s t ∧ keptButMemory 4 u4 t)

/-- PUSH (R152, R153): the source is read after the decrement; PUSH.L writes the low-order word first. -/
def Obligations.PushOnStack : Prop :=
  ∀ (s : State) (rn : Reg16) (ern : RegNum), s.mem.wf → s.spOdd = false →
    let u2 := s.setReg32 .r7 (s.reg32 .r7 - 2#32)
    let u4 := s.setReg32 .r7 (s.reg32 .r7 - 4#32)
    (s.evenAddr (u2.eaInd .r7) ≠ s.nextPc 2 →
      ∃ t, exec (.pushW rn) s = .next t ∧ stored16 (u2.eaInd .r7) (u2.reg16 rn) s t ∧
        movedFlags (u2.reg16 rn) s t ∧ keptButMemory 2 u2 t) ∧
    (s.evenAddr (u4.eaInd .r7) ≠ s.nextPc 4 → s.evenAddr (u4.eaInd .r7 + 2#24) ≠ s.nextPc 4 →
      ∃ t, exec (.pushL ern) s = .next t ∧ stored32LowFirst (u4.eaInd .r7) (u4.reg32 ern) s t ∧
        movedFlags (u4.reg32 ern) s t ∧ keptButMemory 4 u4 t)

/-! ## Arithmetic (spec/41_arithmetic.md) -/

/-- The result and the flags of addition and subtraction are those of the source's Table 2.7, bit by bit, S the source, D
the destination before, R the result, `m-4` the bit below the half-carry boundary (R160). -/
def Obligations.FlagsOfTable27 : Prop :=
  ∀ (w : Nat) (d s : BitVec w) (cin : Bool), 4 < w →
    (let o := addFlags d s cin
     let sh := s.getLsbD (w - 5); let dh := d.getLsbD (w - 5); let rh := o.r.getLsbD (w - 5)
     o.r.toNat = (d.toNat + s.toNat + cin.toNat) % 2 ^ w ∧
     o.h = (sh && dh || dh && !rh || sh && !rh) ∧ o.n = o.r.getLsbD (w - 1) ∧ o.z = decide (o.r = 0#w) ∧
     o.v = (s.msb && d.msb && !o.r.msb || !s.msb && !d.msb && o.r.msb) ∧
     o.c = (s.msb && d.msb || d.msb && !o.r.msb || s.msb && !o.r.msb)) ∧
    (let o := subFlags d s cin
     let sh := s.getLsbD (w - 5); let dh := d.getLsbD (w - 5); let rh := o.r.getLsbD (w - 5)
     (o.r.toNat : Int) = ((d.toNat : Int) - s.toNat - cin.toNat) % 2 ^ w ∧
     o.h = (sh && !dh || !dh && rh || sh && rh) ∧ o.n = o.r.getLsbD (w - 1) ∧ o.z = decide (o.r = 0#w) ∧
     o.v = (!s.msb && d.msb && !o.r.msb || s.msb && !d.msb && o.r.msb) ∧
     o.c = (s.msb && !d.msb || !d.msb && o.r.msb || s.msb && o.r.msb))

/-- ADD and SUB (R161 to R166). -/
def Obligations.AddAndSubtract : Prop :=
  ∀ (s : State) (rs8 rd8 : Reg8) (rs16 rd16 : Reg16) (ers erd : RegNum) (i8 : Byte) (i16 : Word) (i32 : Long),
    (∀ p ∈ ([(.addBImm i8 rd8, addFlags (s.reg8 rd8) i8 false),
        (.addBReg rs8 rd8, addFlags (s.reg8 rd8) (s.reg8 rs8) false),
        (.subBReg rs8 rd8, subFlags (s.reg8 rd8) (s.reg8 rs8) false)] : List (Instr × AluOut 8)),
      ∃ t, exec p.1 s = .next t ∧ wrote8 rd8 p.2.r s t ∧ arithFlags p.2 s t ∧ keptButRegs 2 s t) ∧
    (∀ p ∈ ([(.addWImm i16 rd16, addFlags (s.reg16 rd16) i16 false, 4),
        (.addWReg rs16 rd16, addFlags (s.reg16 rd16) (s.reg16 rs16) false, 2),
        (.subWImm i16 rd16, subFlags (s.reg16 rd16) i16 false, 4),
        (.subWReg rs16 rd16, subFlags (s.reg16 rd16) (s.reg16 rs16) false, 2)] :
        List (Instr × AluOut 16 × Nat)),
      ∃ t, exec p.1 s = .next t ∧ wrote16 rd16 p.2.1.r s t ∧ arithFlags p.2.1 s t ∧
        keptButRegs p.2.2 s t) ∧
    (∀ p ∈ ([(.addLImm i32 erd, addFlags (s.reg32 erd) i32 false, 6),
        (.addLReg ers erd, addFlags (s.reg32 erd) (s.reg32 ers) false, 2),
        (.subLImm i32 erd, subFlags (s.reg32 erd) i32 false, 6),
        (.subLReg ers erd, subFlags (s.reg32 erd) (s.reg32 ers) false, 2)] :
        List (Instr × AluOut 32 × Nat)),
      ∃ t, exec p.1 s = .next t ∧ wrote32 erd p.2.1.r s t ∧ arithFlags p.2.1 s t ∧
        keptButRegs p.2.2 s t)

/-- ADDX and SUBX: the carry goes in, and Z is only ever cleared (R167, R168). -/
def Obligations.AddAndSubtractWithCarry : Prop :=
  ∀ (s : State) (rs rd : Reg8) (i8 : Byte),
    ∀ p ∈ ([(.addxImm i8 rd, addFlags (s.reg8 rd) i8 s.ccr.c),
        (.addxReg rs rd, addFlags (s.reg8 rd) (s.reg8 rs) s.ccr.c),
        (.subxImm i8 rd, subFlags (s.reg8 rd) i8 s.ccr.c),
        (.subxReg rs rd, subFlags (s.reg8 rd) (s.reg8 rs) s.ccr.c)] : List (Instr × AluOut 8)),
      ∃ t, exec p.1 s = .next t ∧ wrote8 rd p.2.r s t ∧
        t.ccr = { s.ccr with h := p.2.h, n := p.2.n, z := s.ccr.z && p.2.z, v := p.2.v, c := p.2.c } ∧
        keptButRegs 2 s t

/-- CMP: the flags of the subtraction, and no register changes (R188 to R190). -/
def Obligations.Compare : Prop :=
  ∀ (s : State) (rs8 rd8 : Reg8) (rs16 rd16 : Reg16) (ers erd : RegNum) (i8 : Byte) (i16 : Word) (i32 : Long),
    (∀ p ∈ ([(.cmpBImm i8 rd8, i8), (.cmpBReg rs8 rd8, s.reg8 rs8)] : List (Instr × Byte)),
      ∃ t, exec p.1 s = .next t ∧ keptRegs s t ∧ arithFlags (subFlags (s.reg8 rd8) p.2 false) s t ∧
        keptButRegs 2 s t) ∧
    (∀ p ∈ ([(.cmpWImm i16 rd16, i16, 4), (.cmpWReg rs16 rd16, s.reg16 rs16, 2)] :
        List (Instr × Word × Nat)),
      ∃ t, exec p.1 s = .next t ∧ keptRegs s t ∧ arithFlags (subFlags (s.reg16 rd16) p.2.1 false) s t ∧
        keptButRegs p.2.2 s t) ∧
    (∀ p ∈ ([(.cmpLImm i32 erd, i32, 6), (.cmpLReg ers erd, s.reg32 ers, 2)] : List (Instr × Long × Nat)),
      ∃ t, exec p.1 s = .next t ∧ keptRegs s t ∧ arithFlags (subFlags (s.reg32 erd) p.2.1 false) s t ∧
        keptButRegs p.2.2 s t)

/-- INC and DEC: N, Z, and V for the one signed overflow; H and C kept (R169 to R174). -/
def Obligations.IncrementAndDecrement : Prop :=
  ∀ (s : State) (rd8 : Reg8) (rd16 : Reg16) (erd : RegNum),
    (∀ p ∈ ([(.incB rd8, s.reg8 rd8 + 1#8, !(s.reg8 rd8).msb && (s.reg8 rd8 + 1#8).msb),
        (.decB rd8, s.reg8 rd8 - 1#8, (s.reg8 rd8).msb && !(s.reg8 rd8 - 1#8).msb)] :
        List (Instr × Byte × Bool)),
      ∃ t, exec p.1 s = .next t ∧ wrote8 rd8 p.2.1 s t ∧
        t.ccr = { s.ccr with n := p.2.1.msb, z := decide (p.2.1 = 0#8), v := p.2.2 } ∧
        keptButRegs 2 s t) ∧
    (∀ p ∈ ([(.incW1 rd16, s.reg16 rd16 + 1#16, !(s.reg16 rd16).msb && (s.reg16 rd16 + 1#16).msb),
        (.incW2 rd16, s.reg16 rd16 + 2#16, !(s.reg16 rd16).msb && (s.reg16 rd16 + 2#16).msb),
        (.decW1 rd16, s.reg16 rd16 - 1#16, (s.reg16 rd16).msb && !(s.reg16 rd16 - 1#16).msb),
        (.decW2 rd16, s.reg16 rd16 - 2#16, (s.reg16 rd16).msb && !(s.reg16 rd16 - 2#16).msb)] :
        List (Instr × Word × Bool)),
      ∃ t, exec p.1 s = .next t ∧ wrote16 rd16 p.2.1 s t ∧
        t.ccr = { s.ccr with n := p.2.1.msb, z := decide (p.2.1 = 0#16), v := p.2.2 } ∧
        keptButRegs 2 s t) ∧
    (∀ p ∈ ([(.incL1 erd, s.reg32 erd + 1#32, !(s.reg32 erd).msb && (s.reg32 erd + 1#32).msb),
        (.incL2 erd, s.reg32 erd + 2#32, !(s.reg32 erd).msb && (s.reg32 erd + 2#32).msb),
        (.decL1 erd, s.reg32 erd - 1#32, (s.reg32 erd).msb && !(s.reg32 erd - 1#32).msb),
        (.decL2 erd, s.reg32 erd - 2#32, (s.reg32 erd).msb && !(s.reg32 erd - 2#32).msb)] :
        List (Instr × Long × Bool)),
      ∃ t, exec p.1 s = .next t ∧ wrote32 erd p.2.1 s t ∧
        t.ccr = { s.ccr with n := p.2.1.msb, z := decide (p.2.1 = 0#32), v := p.2.2 } ∧
        keptButRegs 2 s t)

/-- ADDS and SUBS: 32 bits, no flag (R175, R176). -/
def Obligations.AddressArithmetic : Prop :=
  ∀ (s : State) (erd : RegNum),
    ∀ p ∈ ([(.adds1 erd, s.reg32 erd + 1#32), (.adds2 erd, s.reg32 erd + 2#32),
        (.adds4 erd, s.reg32 erd + 4#32), (.subs1 erd, s.reg32 erd - 1#32),
        (.subs2 erd, s.reg32 erd - 2#32), (.subs4 erd, s.reg32 erd - 4#32)] : List (Instr × Long)),
      ∃ t, exec p.1 s = .next t ∧ wrote32 erd p.2 s t ∧ t.ccr = s.ccr ∧ keptButRegs 2 s t

/-- DAA and DAS row by row of their tables: a row is C before, the range of the upper digit, H before, the range of the lower
digit, the value added, C after. H and V are open after a row; where no row holds, Rd and the five flags are open; everything
else is kept (R177, R178, D13). -/
def Obligations.DecimalAdjust : Prop :=
  ∀ (s : State) (rd : Reg8),
    ∀ p ∈ ([(.daa rd,
          [(false, 0, 9, false, 0, 9, 0x00#8, false), (false, 0, 8, false, 10, 15, 0x06#8, false),
            (false, 0, 9, true, 0, 3, 0x06#8, false), (false, 10, 15, false, 0, 9, 0x60#8, true),
            (false, 9, 15, false, 10, 15, 0x66#8, true), (false, 10, 15, true, 0, 3, 0x66#8, true),
            (true, 0, 2, false, 0, 9, 0x60#8, true), (true, 0, 2, false, 10, 15, 0x66#8, true),
            (true, 0, 3, true, 0, 3, 0x66#8, true)]),
        (.das rd,
          [(false, 0, 9, false, 0, 9, 0x00#8, false), (false, 0, 8, true, 6, 15, 0xFA#8, false),
            (true, 7, 15, false, 0, 9, 0xA0#8, true), (true, 6, 15, true, 6, 15, 0x9A#8, true)])] :
        List (Instr × List (Bool × Nat × Nat × Bool × Nat × Nat × Byte × Bool))),
      ∃ (t : State) (k : Nat) (r : Byte) (n z v c h : Bool), exec p.1 s = .next t ∧ wrote8 rd r s t ∧
        t.ccr = { s.ccr with n := n, z := z, v := v, c := c, h := h } ∧ t.pc = s.nextPc 2 ∧
        keptMemory s t ∧ keptRest k s t ∧
        ∀ row ∈ p.2, s.ccr.c = row.1 →
          row.2.1 ≤ (s.reg8 rd).toNat / 16 → (s.reg8 rd).toNat / 16 ≤ row.2.2.1 →
          s.ccr.h = row.2.2.2.1 →
          row.2.2.2.2.1 ≤ (s.reg8 rd).toNat % 16 → (s.reg8 rd).toNat % 16 ≤ row.2.2.2.2.2.1 →
          r = s.reg8 rd + row.2.2.2.2.2.2.1 ∧ n = r.msb ∧ z = decide (r = 0#8) ∧
            c = row.2.2.2.2.2.2.2

/-- MULXU and MULXS: the exact product in the double-width destination; MULXS writes N and Z (R179 to R182). -/
def Obligations.Multiply : Prop :=
  ∀ (s : State) (rs8 : Reg8) (rs16 rd16 : Reg16) (erd : RegNum),
    (∃ t r, exec (.mulxuB rs8 rd16) s = .next t ∧ wrote16 rd16 r s t ∧ t.ccr = s.ccr ∧ keptButRegs 2 s t ∧
      r.toNat = (s.reg16 rd16).toNat % 256 * (s.reg8 rs8).toNat) ∧
    (∃ t r, exec (.mulxuW rs16 erd) s = .next t ∧ wrote32 erd r s t ∧ t.ccr = s.ccr ∧ keptButRegs 2 s t ∧
      r.toNat = (s.reg32 erd).toNat % 65536 * (s.reg16 rs16).toNat) ∧
    (∃ t r, exec (.mulxsB rs8 rd16) s = .next t ∧ wrote16 rd16 r s t ∧
      t.ccr = { s.ccr with n := r.msb, z := decide (r = 0#16) } ∧ keptButRegs 4 s t ∧
      r.toInt = ((s.reg16 rd16).setWidth 8).toInt * (s.reg8 rs8).toInt) ∧
    (∃ t r, exec (.mulxsW rs16 erd) s = .next t ∧ wrote32 erd r s t ∧
      t.ccr = { s.ccr with n := r.msb, z := decide (r = 0#32) } ∧ keptButRegs 4 s t ∧
      r.toInt = ((s.reg32 erd).setWidth 16).toInt * (s.reg16 rs16).toInt)

/-- DIVXU: quotient below, remainder above, where the divisor is not zero and the quotient fits; else the destination is
open; N and Z come from the divisor (R183, R184, R187). -/
def Obligations.DivideUnsigned : Prop :=
  ∀ (s : State) (rs8 : Reg8) (rs16 rd16 : Reg16) (erd : RegNum),
    (∃ t k r, exec (.divxuB rs8 rd16) s = .next t ∧ wrote16 rd16 r s t ∧
      t.ccr = { s.ccr with n := (s.reg8 rs8).msb, z := decide (s.reg8 rs8 = 0#8) } ∧
      t.pc = s.nextPc 2 ∧ keptMemory s t ∧ keptRest k s t ∧
      (s.reg8 rs8 ≠ 0#8 → (s.reg16 rd16).toNat / (s.reg8 rs8).toNat ≤ 255 →
        r.toNat = (s.reg16 rd16).toNat % (s.reg8 rs8).toNat * 256 +
          (s.reg16 rd16).toNat / (s.reg8 rs8).toNat)) ∧
    (∃ t k r, exec (.divxuW rs16 erd) s = .next t ∧ wrote32 erd r s t ∧
      t.ccr = { s.ccr with n := (s.reg16 rs16).msb, z := decide (s.reg16 rs16 = 0#16) } ∧
      t.pc = s.nextPc 2 ∧ keptMemory s t ∧ keptRest k s t ∧
      (s.reg16 rs16 ≠ 0#16 → (s.reg32 erd).toNat / (s.reg16 rs16).toNat ≤ 65535 →
        r.toNat = (s.reg32 erd).toNat % (s.reg16 rs16).toNat * 65536 +
          (s.reg32 erd).toNat / (s.reg16 rs16).toNat))

/-- DIVXS: the quotient truncated toward zero below, the remainder with the dividend's sign above, where the divisor is not
zero and the quotient fits; else the destination is open; N says that the signs differ, Z that the divisor is zero (R185 to
R187). -/
def Obligations.DivideSigned : Prop :=
  ∀ (s : State) (rs8 : Reg8) (rs16 rd16 : Reg16) (erd : RegNum),
    (∃ t k r, exec (.divxsB rs8 rd16) s = .next t ∧ wrote16 rd16 r s t ∧
      t.ccr = { s.ccr with
        n := xor (s.reg16 rd16).msb (s.reg8 rs8).msb, z := decide (s.reg8 rs8 = 0#8) } ∧
      t.pc = s.nextPc 4 ∧ keptMemory s t ∧ keptRest k s t ∧
      (s.reg8 rs8 ≠ 0#8 → -128 ≤ (s.reg16 rd16).toInt.tdiv (s.reg8 rs8).toInt →
        (s.reg16 rd16).toInt.tdiv (s.reg8 rs8).toInt ≤ 127 →
        (r.extractLsb' 0 8).toInt = (s.reg16 rd16).toInt.tdiv (s.reg8 rs8).toInt ∧
        (r.extractLsb' 8 8).toInt = (s.reg16 rd16).toInt.tmod (s.reg8 rs8).toInt)) ∧
    (∃ t k r, exec (.divxsW rs16 erd) s = .next t ∧ wrote32 erd r s t ∧
      t.ccr = { s.ccr with
        n := xor (s.reg32 erd).msb (s.reg16 rs16).msb, z := decide (s.reg16 rs16 = 0#16) } ∧
      t.pc = s.nextPc 4 ∧ keptMemory s t ∧ keptRest k s t ∧
      (s.reg16 rs16 ≠ 0#16 → -32768 ≤ (s.reg32 erd).toInt.tdiv (s.reg16 rs16).toInt →
        (s.reg32 erd).toInt.tdiv (s.reg16 rs16).toInt ≤ 32767 →
        (r.extractLsb' 0 16).toInt = (s.reg32 erd).toInt.tdiv (s.reg16 rs16).toInt ∧
        (r.extractLsb' 16 16).toInt = (s.reg32 erd).toInt.tmod (s.reg16 rs16).toInt))

/-- NEG, EXTS, EXTU (R191 to R197). -/
def Obligations.NegateAndExtend : Prop :=
  ∀ (s : State) (rd8 : Reg8) (rd16 : Reg16) (erd : RegNum),
    (∃ t, exec (.negB rd8) s = .next t ∧ wrote8 rd8 (-s.reg8 rd8) s t ∧
      arithFlags (subFlags 0#8 (s.reg8 rd8) false) s t ∧ keptButRegs 2 s t) ∧
    (∃ t, exec (.negW rd16) s = .next t ∧ wrote16 rd16 (-s.reg16 rd16) s t ∧
      arithFlags (subFlags 0#16 (s.reg16 rd16) false) s t ∧ keptButRegs 2 s t) ∧
    (∃ t, exec (.negL erd) s = .next t ∧ wrote32 erd (-s.reg32 erd) s t ∧
      arithFlags (subFlags 0#32 (s.reg32 erd) false) s t ∧ keptButRegs 2 s t) ∧
    (∃ t r, exec (.extsW rd16) s = .next t ∧ wrote16 rd16 r s t ∧ movedFlags r s t ∧ keptButRegs 2 s t ∧
      r.toInt = ((s.reg16 rd16).setWidth 8).toInt) ∧
    (∃ t r, exec (.extsL erd) s = .next t ∧ wrote32 erd r s t ∧ movedFlags r s t ∧ keptButRegs 2 s t ∧
      r.toInt = ((s.reg32 erd).setWidth 16).toInt) ∧
    (∃ t r, exec (.extuW rd16) s = .next t ∧ wrote16 rd16 r s t ∧
      t.ccr = { s.ccr with n := false, z := decide (r = 0#16), v := false } ∧ keptButRegs 2 s t ∧
      r.toNat = (s.reg16 rd16).toNat % 256) ∧
    (∃ t r, exec (.extuL erd) s = .next t ∧ wrote32 erd r s t ∧
      t.ccr = { s.ccr with n := false, z := decide (r = 0#32), v := false } ∧ keptButRegs 2 s t ∧
      r.toNat = (s.reg32 erd).toNat % 65536)

/-! ## Logic (spec/42_logic.md) -/

/-- AND, OR, XOR, NOT (R221 to R232). -/
def Obligations.LogicOperations : Prop :=
  ∀ (s : State) (rs8 rd8 : Reg8) (rs16 rd16 : Reg16) (ers erd : RegNum) (i8 : Byte) (i16 : Word) (i32 : Long),
    (∀ p ∈ ([(.andBImm i8 rd8, s.reg8 rd8 &&& i8), (.andBReg rs8 rd8, s.reg8 rd8 &&& s.reg8 rs8),
        (.orBImm i8 rd8, s.reg8 rd8 ||| i8), (.orBReg rs8 rd8, s.reg8 rd8 ||| s.reg8 rs8),
        (.xorBImm i8 rd8, s.reg8 rd8 ^^^ i8), (.xorBReg rs8 rd8, s.reg8 rd8 ^^^ s.reg8 rs8),
        (.notB rd8, ~~~s.reg8 rd8)] : List (Instr × Byte)),
      ∃ t, exec p.1 s = .next t ∧ wrote8 rd8 p.2 s t ∧ movedFlags p.2 s t ∧ keptButRegs 2 s t) ∧
    (∀ p ∈ ([(.andWImm i16 rd16, s.reg16 rd16 &&& i16, 4), (.andWReg rs16 rd16, s.reg16 rd16 &&& s.reg16 rs16, 2),
        (.orWImm i16 rd16, s.reg16 rd16 ||| i16, 4), (.orWReg rs16 rd16, s.reg16 rd16 ||| s.reg16 rs16, 2),
        (.xorWImm i16 rd16, s.reg16 rd16 ^^^ i16, 4), (.xorWReg rs16 rd16, s.reg16 rd16 ^^^ s.reg16 rs16, 2),
        (.notW rd16, ~~~s.reg16 rd16, 2)] : List (Instr × Word × Nat)),
      ∃ t, exec p.1 s = .next t ∧ wrote16 rd16 p.2.1 s t ∧ movedFlags p.2.1 s t ∧ keptButRegs p.2.2 s t) ∧
    (∀ p ∈ ([(.andLImm i32 erd, s.reg32 erd &&& i32, 6), (.andLReg ers erd, s.reg32 erd &&& s.reg32 ers, 4),
        (.orLImm i32 erd, s.reg32 erd ||| i32, 6), (.orLReg ers erd, s.reg32 erd ||| s.reg32 ers, 4),
        (.xorLImm i32 erd, s.reg32 erd ^^^ i32, 6), (.xorLReg ers erd, s.reg32 erd ^^^ s.reg32 ers, 4),
        (.notL erd, ~~~s.reg32 erd, 2)] : List (Instr × Long × Nat)),
      ∃ t, exec p.1 s = .next t ∧ wrote32 erd p.2.1 s t ∧ movedFlags p.2.1 s t ∧ keptButRegs p.2.2 s t)

/-! ## Shift and rotate (spec/43_shift.md) -/

/-- The four shifts by one bit: the result as a number, N, V, C (R241 to R244). -/
def Obligations.Shifts : Prop :=
  ∀ (s : State) (rd8 : Reg8) (rd16 : Reg16) (erd : RegNum),
    let d8 := s.reg8 rd8
    let d16 := s.reg16 rd16
    let d32 := s.reg32 erd
    (∀ p ∈ ([(.shalB rd8, BitVec.ofNat 8 (2 * d8.toNat), xor d8.msb (d8.getLsbD 6), d8.msb),
        (.sharB rd8, BitVec.ofInt 8 (d8.toInt / 2), false, d8.getLsbD 0),
        (.shllB rd8, BitVec.ofNat 8 (2 * d8.toNat), false, d8.msb),
        (.shlrB rd8, BitVec.ofNat 8 (d8.toNat / 2), false, d8.getLsbD 0)] : List (Instr × Byte × Bool × Bool)),
      ∃ t, exec p.1 s = .next t ∧ wrote8 rd8 p.2.1 s t ∧
        t.ccr = { s.ccr with n := p.2.1.msb, z := decide (p.2.1 = 0#8), v := p.2.2.1, c := p.2.2.2 } ∧
        keptButRegs 2 s t) ∧
    (∀ p ∈ ([(.shalW rd16, BitVec.ofNat 16 (2 * d16.toNat), xor d16.msb (d16.getLsbD 14), d16.msb),
        (.sharW rd16, BitVec.ofInt 16 (d16.toInt / 2), false, d16.getLsbD 0),
        (.shllW rd16, BitVec.ofNat 16 (2 * d16.toNat), false, d16.msb),
        (.shlrW rd16, BitVec.ofNat 16 (d16.toNat / 2), false, d16.getLsbD 0)] :
        List (Instr × Word × Bool × Bool)),
      ∃ t, exec p.1 s = .next t ∧ wrote16 rd16 p.2.1 s t ∧
        t.ccr = { s.ccr with n := p.2.1.msb, z := decide (p.2.1 = 0#16), v := p.2.2.1, c := p.2.2.2 } ∧
        keptButRegs 2 s t) ∧
    (∀ p ∈ ([(.shalL erd, BitVec.ofNat 32 (2 * d32.toNat), xor d32.msb (d32.getLsbD 30), d32.msb),
        (.sharL erd, BitVec.ofInt 32 (d32.toInt / 2), false, d32.getLsbD 0),
        (.shllL erd, BitVec.ofNat 32 (2 * d32.toNat), false, d32.msb),
        (.shlrL erd, BitVec.ofNat 32 (d32.toNat / 2), false, d32.getLsbD 0)] :
        List (Instr × Long × Bool × Bool)),
      ∃ t, exec p.1 s = .next t ∧ wrote32 erd p.2.1 s t ∧
        t.ccr = { s.ccr with n := p.2.1.msb, z := decide (p.2.1 = 0#32), v := p.2.2.1, c := p.2.2.2 } ∧
        keptButRegs 2 s t)

/-- The rotations by one bit, without and through the carry: the result as the bits put together, and C (R245 to R248). -/
def Obligations.Rotations : Prop :=
  ∀ (s : State) (rd8 : Reg8) (rd16 : Reg16) (erd : RegNum),
    let d8 := s.reg8 rd8
    let d16 := s.reg16 rd16
    let d32 := s.reg32 erd
    let x := BitVec.ofBool s.ccr.c
    (∀ p ∈ ([(.rotlB rd8, d8.extractLsb' 0 7 ++ d8.extractLsb' 7 1, d8.msb),
        (.rotrB rd8, d8.extractLsb' 0 1 ++ d8.extractLsb' 1 7, d8.getLsbD 0),
        (.rotxlB rd8, d8.extractLsb' 0 7 ++ x, d8.msb),
        (.rotxrB rd8, x ++ d8.extractLsb' 1 7, d8.getLsbD 0)] : List (Instr × Byte × Bool)),
      ∃ t, exec p.1 s = .next t ∧ wrote8 rd8 p.2.1 s t ∧
        t.ccr = { s.ccr with n := p.2.1.msb, z := decide (p.2.1 = 0#8), v := false, c := p.2.2 } ∧
        keptButRegs 2 s t) ∧
    (∀ p ∈ ([(.rotlW rd16, d16.extractLsb' 0 15 ++ d16.extractLsb' 15 1, d16.msb),
        (.rotrW rd16, d16.extractLsb' 0 1 ++ d16.extractLsb' 1 15, d16.getLsbD 0),
        (.rotxlW rd16, d16.extractLsb' 0 15 ++ x, d16.msb),
        (.rotxrW rd16, x ++ d16.extractLsb' 1 15, d16.getLsbD 0)] : List (Instr × Word × Bool)),
      ∃ t, exec p.1 s = .next t ∧ wrote16 rd16 p.2.1 s t ∧
        t.ccr = { s.ccr with n := p.2.1.msb, z := decide (p.2.1 = 0#16), v := false, c := p.2.2 } ∧
        keptButRegs 2 s t) ∧
    (∀ p ∈ ([(.rotlL erd, d32.extractLsb' 0 31 ++ d32.extractLsb' 31 1, d32.msb),
        (.rotrL erd, d32.extractLsb' 0 1 ++ d32.extractLsb' 1 31, d32.getLsbD 0),
        (.rotxlL erd, d32.extractLsb' 0 31 ++ x, d32.msb),
        (.rotxrL erd, x ++ d32.extractLsb' 1 31, d32.getLsbD 0)] : List (Instr × Long × Bool)),
      ∃ t, exec p.1 s = .next t ∧ wrote32 erd p.2.1 s t ∧
        t.ccr = { s.ccr with n := p.2.1.msb, z := decide (p.2.1 = 0#32), v := false, c := p.2.2 } ∧
        keptButRegs 2 s t)

/-! ## Bit manipulation (spec/44_bit_manipulation.md) -/

/-- BSET, BCLR, BNOT, BST, BIST on a register: the numbered bit takes the new value, the other seven stay, no flag changes
(R263 to R265, R275, R276). -/
def Obligations.BitWriteOnRegister : Prop :=
  ∀ (s : State) (imm : BitVec 3) (rn rd : Reg8),
    let b := s.reg8 rd
    ∀ p ∈ ([(.bsetImmReg imm rd, imm.toNat, true), (.bsetRegReg rn rd, (s.reg8 rn).toNat % 8, true),
        (.bclrImmReg imm rd, imm.toNat, false), (.bclrRegReg rn rd, (s.reg8 rn).toNat % 8, false),
        (.bnotImmReg imm rd, imm.toNat, !b.getLsbD imm.toNat),
        (.bnotRegReg rn rd, (s.reg8 rn).toNat % 8, !b.getLsbD ((s.reg8 rn).toNat % 8)),
        (.bstReg imm rd, imm.toNat, s.ccr.c), (.bistReg imm rd, imm.toNat, !s.ccr.c)] :
        List (Instr × Nat × Bool)),
      ∃ t r, exec p.1 s = .next t ∧ wrote8 rd r s t ∧ t.ccr = s.ccr ∧ keptButRegs 2 s t ∧
        ∀ k, k < 8 → r.getLsbD k = if k = p.2.1 then p.2.2 else b.getLsbD k

/-- The same five on memory at @ERd and @aa:8: the byte read is written back with the one bit changed, where it does not lie
in the word at `next`: one read of the byte, then one write of all eight bits, and no other access (R262 to R265, R275, R276,
R63, R73). -/
def Obligations.BitWriteOnMemory : Prop :=
  ∀ (s : State) (imm : BitVec 3) (rn : Reg8) (erd : RegNum) (aa : BitVec 8), s.mem.wf →
    let m := (s.reg8 rn).toNat % 8
    let x := s.readByte (s.eaInd erd)
    let y := s.readByte (eaAbs8 aa)
    ∀ p ∈ ([(.bsetImmInd imm erd, s.eaInd erd, imm.toNat, true), (.bsetImmAbs imm aa, eaAbs8 aa, imm.toNat, true),
        (.bsetRegInd rn erd, s.eaInd erd, m, true), (.bsetRegAbs rn aa, eaAbs8 aa, m, true),
        (.bclrImmInd imm erd, s.eaInd erd, imm.toNat, false), (.bclrImmAbs imm aa, eaAbs8 aa, imm.toNat, false),
        (.bclrRegInd rn erd, s.eaInd erd, m, false), (.bclrRegAbs rn aa, eaAbs8 aa, m, false),
        (.bnotImmInd imm erd, s.eaInd erd, imm.toNat, !x.getLsbD imm.toNat),
        (.bnotImmAbs imm aa, eaAbs8 aa, imm.toNat, !y.getLsbD imm.toNat),
        (.bnotRegInd rn erd, s.eaInd erd, m, !x.getLsbD m), (.bnotRegAbs rn aa, eaAbs8 aa, m, !y.getLsbD m),
        (.bstInd imm erd, s.eaInd erd, imm.toNat, s.ccr.c), (.bstAbs imm aa, eaAbs8 aa, imm.toNat, s.ccr.c),
        (.bistInd imm erd, s.eaInd erd, imm.toNat, !s.ccr.c), (.bistAbs imm aa, eaAbs8 aa, imm.toNat, !s.ccr.c)] :
        List (Instr × Addr × Nat × Bool)),
      s.evenAddr p.2.1 ≠ s.nextPc 4 →
      ∃ t r, exec p.1 s = .next t ∧ stored8 p.2.1 r (s.sawByte p.2.1) t ∧ t.ccr = s.ccr ∧ keptButMemory 4 s t ∧
        ∀ k, k < 8 → r.getLsbD k = if k = p.2.2.1 then p.2.2.2 else (s.readByte p.2.1).getLsbD k

/-- BTST writes Z, and BAND, BIAND, BOR, BIOR, BXOR, BIXOR, BLD, BILD write C, from the numbered bit of a register, of the
byte at @ERd and of the byte at @aa:8, which is read once; nothing else changes (R266 to R274). -/
def Obligations.BitTestAndBitLogic : Prop :=
  ∀ (s : State) (imm : BitVec 3) (rn rd : Reg8) (erd : RegNum) (aa : BitVec 8),
    let m := (s.reg8 rn).toNat % 8
    let w := s.reg8 rd
    let x := s.readByte (s.eaInd erd)
    let y := s.readByte (eaAbs8 aa)
    let s1 := s.sawByte (s.eaInd erd)
    let s2 := s.sawByte (eaAbs8 aa)
    (∀ p ∈ ([(.btstImmReg imm rd, !w.getLsbD imm.toNat, 2, s), (.btstImmInd imm erd, !x.getLsbD imm.toNat, 4, s1),
        (.btstImmAbs imm aa, !y.getLsbD imm.toNat, 4, s2), (.btstRegReg rn rd, !w.getLsbD m, 2, s),
        (.btstRegInd rn erd, !x.getLsbD m, 4, s1), (.btstRegAbs rn aa, !y.getLsbD m, 4, s2)] :
        List (Instr × Bool × Nat × State)),
      ∃ t, exec p.1 s = .next t ∧ t.ccr = { s.ccr with z := p.2.1 } ∧ keptRegs s t ∧ keptButRegs p.2.2.1 p.2.2.2 t) ∧
    (∀ q ∈ [(0, w, 2, s), (1, x, 4, s1), (2, y, 4, s2)],
      ∀ p ∈ ([([.bandReg imm rd, .bandInd imm erd, .bandAbs imm aa], s.ccr.c && q.2.1.getLsbD imm.toNat),
          ([.biandReg imm rd, .biandInd imm erd, .biandAbs imm aa], s.ccr.c && !q.2.1.getLsbD imm.toNat),
          ([.borReg imm rd, .borInd imm erd, .borAbs imm aa], s.ccr.c || q.2.1.getLsbD imm.toNat),
          ([.biorReg imm rd, .biorInd imm erd, .biorAbs imm aa], s.ccr.c || !q.2.1.getLsbD imm.toNat),
          ([.bxorReg imm rd, .bxorInd imm erd, .bxorAbs imm aa], xor s.ccr.c (q.2.1.getLsbD imm.toNat)),
          ([.bixorReg imm rd, .bixorInd imm erd, .bixorAbs imm aa], xor s.ccr.c (!q.2.1.getLsbD imm.toNat)),
          ([.bldReg imm rd, .bldInd imm erd, .bldAbs imm aa], q.2.1.getLsbD imm.toNat),
          ([.bildReg imm rd, .bildInd imm erd, .bildAbs imm aa], !q.2.1.getLsbD imm.toNat)] :
          List (List Instr × Bool)),
        ∀ i, p.1[q.1]? = some i →
          ∃ t, exec i s = .next t ∧ t.ccr = { s.ccr with c := p.2 } ∧ keptRegs s t ∧ keptButRegs q.2.2.1 q.2.2.2 t)

/-! ## Branches (spec/45_branch.md) -/

/-- Bcc with both displacements: where the condition of R291 holds on the CCR, the pc goes to `next` plus the sign-extended
displacement, else to `next`; nothing else changes (R290, R291). -/
def Obligations.ConditionalBranch : Prop :=
  ∀ (s : State) (x8 : BitVec 8) (x16 : BitVec 16),
    ∀ d ∈ ([(.d8 x8, 2, x8.toInt), (.d16 x16, 4, x16.toInt)] : List (Disp × Nat × Int)),
      ∀ p ∈ ([(.bra d.1, true), (.brn d.1, false), (.bhi d.1, decide ((s.ccr.c || s.ccr.z) = false)),
          (.bls d.1, decide ((s.ccr.c || s.ccr.z) = true)), (.bcc d.1, decide (s.ccr.c = false)),
          (.bcs d.1, decide (s.ccr.c = true)), (.bne d.1, decide (s.ccr.z = false)),
          (.beq d.1, decide (s.ccr.z = true)), (.bvc d.1, decide (s.ccr.v = false)),
          (.bvs d.1, decide (s.ccr.v = true)), (.bpl d.1, decide (s.ccr.n = false)),
          (.bmi d.1, decide (s.ccr.n = true)), (.bge d.1, decide (xor s.ccr.n s.ccr.v = false)),
          (.blt d.1, decide (xor s.ccr.n s.ccr.v = true)),
          (.bgt d.1, decide ((s.ccr.z || xor s.ccr.n s.ccr.v) = false)),
          (.ble d.1, decide ((s.ccr.z || xor s.ccr.n s.ccr.v) = true))] : List (Instr × Bool)),
        ∃ t, exec p.1 s = .next t ∧ keptRegs s t ∧ t.ccr = s.ccr ∧ keptMemory s t ∧ keptRest 0 s t ∧
          t.pc = if p.2 = true then s.evenAddr (s.nextPc d.2.1 + BitVec.ofInt 24 d.2.2) else s.nextPc d.2.1

/-- After CMP of the source Y with the destination X the conditions say what R291's last column says: X against Y as unsigned
and as signed numbers, at all three sizes (R188 to R190, R291). -/
def Obligations.ConditionsAfterCompare : Prop :=
  ∀ (s : State) (rs8 rd8 : Reg8) (rs16 rd16 : Reg16) (ers erd : RegNum) (i8 : Byte) (i16 : Word) (i32 : Long),
    (∀ p ∈ ([(.cmpBImm i8 rd8, i8), (.cmpBReg rs8 rd8, s.reg8 rs8)] : List (Instr × Byte)),
      ∃ t, exec p.1 s = .next t ∧ ordered (s.reg8 rd8) p.2 t.ccr) ∧
    (∀ p ∈ ([(.cmpWImm i16 rd16, i16), (.cmpWReg rs16 rd16, s.reg16 rs16)] : List (Instr × Word)),
      ∃ t, exec p.1 s = .next t ∧ ordered (s.reg16 rd16) p.2 t.ccr) ∧
    (∀ p ∈ ([(.cmpLImm i32 erd, i32), (.cmpLReg ers erd, s.reg32 ers)] : List (Instr × Long)),
      ∃ t, exec p.1 s = .next t ∧ ordered (s.reg32 erd) p.2 t.ccr)

/-- JMP: the pc goes to the address register's low 24 bits, to the absolute address, to the address the branch table's entry
holds; nothing else changes (R292 to R294, R102). -/
def Obligations.Jump : Prop :=
  ∀ (s : State) (ern : RegNum) (a24 : BitVec 24) (a8 : BitVec 8),
    ∀ p ∈ ([(.jmpInd ern, (s.reg32 ern).setWidth 24, s), (.jmpAbs a24, a24, s),
        (.jmpMem a8, entryAt (a8.setWidth 24) s, s.sawEntry (a8.setWidth 24))] : List (Instr × Addr × State)),
      ∃ t, exec p.1 s = .next t ∧ t.pc = s.evenAddr p.2.1 ∧ keptRegs s t ∧ t.ccr = s.ccr ∧
        keptMemory p.2.2 t ∧ keptRest 0 s t

/-- BSR and JSR with an even SP and a frame that does not lie over the word at `next`: the return address `next` is pushed (2
bytes in normal mode; in advanced mode 4 with an open first byte, the low word first) and the pc goes to the target, taken
from the state of before; JSR @@aa:8 reads its table entry before it pushes (R295 to R299, D25). -/
def Obligations.CallSubroutine : Prop :=
  ∀ (s : State) (ern : RegNum) (a24 : BitVec 24) (a8 x8 : BitVec 8) (x16 : BitVec 16),
    s.mem.wf → s.spOdd = false →
    let f2 : Addr := (s.reg32 .r7 - 2#32).setWidth 24
    let f4 : Addr := (s.reg32 .r7 - 4#32).setWidth 24
    ∀ p ∈ ([(.bsr (.d8 x8), s.nextPc 2 + x8.signExtend 24, 2, s), (.bsr (.d16 x16), s.nextPc 4 + x16.signExtend 24, 4, s),
        (.jsrInd ern, (s.reg32 ern).setWidth 24, 2, s), (.jsrAbs a24, a24, 4, s),
        (.jsrMem a8, entryAt (a8.setWidth 24) s, 2, s.sawEntry (a8.setWidth 24))] : List (Instr × Addr × Nat × State)),
      (s.cfg.mode = .normal → s.evenAddr f2 ≠ s.nextPc p.2.2.1 →
        ∃ t, exec p.1 s = .next t ∧ wrote32 .r7 (s.reg32 .r7 - 2#32) s t ∧
          stored16 f2 ((s.nextPc p.2.2.1).setWidth 16) p.2.2.2 t ∧ t.pc = s.evenAddr p.2.1 ∧ t.ccr = s.ccr ∧
          keptRest 0 s t) ∧
      (s.cfg.mode = .advanced → s.evenAddr f4 ≠ s.nextPc p.2.2.1 → s.evenAddr (f4 + 2#24) ≠ s.nextPc p.2.2.1 →
        ∃ (t : State) (k : Nat) (x : Byte), exec p.1 s = .next t ∧
          wrote32 .r7 (s.reg32 .r7 - 4#32) s t ∧ stored32LowFirst f4 (x ++ s.nextPc p.2.2.1) p.2.2.2 t ∧
          t.pc = s.evenAddr p.2.1 ∧ t.ccr = s.ccr ∧ keptRest k s t)

/-- RTS with an even SP: the pc from the 2 bytes (normal mode) or the low 24 of the 32 bits (advanced mode) at SP, and SP
goes up (R300). -/
def Obligations.ReturnFromSubroutine : Prop :=
  ∀ s : State, s.spOdd = false →
    ∃ t, exec .rts s = .next t ∧
      wrote32 .r7 (s.reg32 .r7 + (match s.cfg.mode with | .normal => 2#32 | .advanced => 4#32)) s t ∧
      t.pc = s.evenAddr (entryAt ((s.reg32 .r7).setWidth 24) s) ∧ t.ccr = s.ccr ∧
      keptMemory (s.sawEntry ((s.reg32 .r7).setWidth 24)) t ∧
      keptRest 0 s t

/-- A call followed by RTS comes back: with an even SP, RAM everywhere, and no frame over the word at `next`, the pc is the
address after the call, and the registers and the CCR are as before the call (R295 to R300). -/
def Obligations.CallThenReturn : Prop :=
  ∀ (s : State) (ern : RegNum) (a24 : BitVec 24) (a8 x8 : BitVec 8) (x16 : BitVec 16),
    s.mem.wf → s.spOdd = false → (∀ b, s.writable b = true) →
    ∀ p ∈ ([(.bsr (.d8 x8), 2), (.bsr (.d16 x16), 4), (.jsrInd ern, 2), (.jsrAbs a24, 4), (.jsrMem a8, 2)] :
        List (Instr × Nat)),
      (∀ k ∈ [2#32, 4#32], s.evenAddr ((s.reg32 .r7 - k).setWidth 24) ≠ s.nextPc p.2) →
      ∃ t u, exec p.1 s = .next t ∧ exec .rts t = .next u ∧ u.pc = s.nextPc p.2 ∧ keptRegs s u ∧
        u.ccr = s.ccr

/-! ## System control (spec/46_system_control.md) -/

/-- LDC, ANDC, ORC, XORC: every bit of the CCR takes the corresponding bit, and detection of interrupts is inhibited for the
boundary that follows; LDC.W reads the byte at the even address (R314 to R316, R319 to R321, R323). -/
def Obligations.LoadCcr : Prop :=
  ∀ (s : State) (rs : Reg8) (ers : RegNum) (i8 : Byte) (d16 : BitVec 16) (d24 : BitVec 24) (a16 : BitVec 16)
    (a24 : BitVec 24),
    let byteAt (a : Addr) : Byte := (s.readWord a).extractLsb' 8 8
    (∀ p ∈ ([(.ldcBImm i8, i8, 2, s), (.ldcBReg rs, s.reg8 rs, 2, s),
        (.ldcWInd ers, byteAt (s.eaInd ers), 4, s.sawWord (s.eaInd ers)),
        (.ldcWD16 d16 ers, byteAt (s.eaDisp16 ers d16), 6, s.sawWord (s.eaDisp16 ers d16)),
        (.ldcWD24 d24 ers, byteAt (s.eaDisp24 ers d24), 10, s.sawWord (s.eaDisp24 ers d24)),
        (.ldcWA16 a16, byteAt (eaAbs16 a16), 6, s.sawWord (eaAbs16 a16)), (.ldcWA24 a24, byteAt a24, 8, s.sawWord a24),
        (.andc i8, s.ccr.toByte &&& i8, 2, s), (.orc i8, s.ccr.toByte ||| i8, 2, s),
        (.xorc i8, s.ccr.toByte ^^^ i8, 2, s)] : List (Instr × Byte × Nat × State)),
      ∃ t, exec p.1 s = .next t ∧
        t.ccr = { i := p.2.1.getLsbD 7, ui := p.2.1.getLsbD 6, h := p.2.1.getLsbD 5, u := p.2.1.getLsbD 4,
                  n := p.2.1.getLsbD 3, z := p.2.1.getLsbD 2, v := p.2.1.getLsbD 1, c := p.2.1.getLsbD 0 } ∧
        t.irqInhibit = true ∧ keptRegs s t ∧ keptButRegs p.2.2.1 { p.2.2.2 with irqInhibit := true } t) ∧
    (∃ t, exec (.ldcWInc ers) s = .next t ∧ t.ccr.toByte = byteAt (s.eaInd ers) ∧
      wrote32 ers (s.reg32 ers + 2#32) s t ∧ t.irqInhibit = true ∧
      keptButRegs 4 { s.sawWord (s.eaInd ers) with irqInhibit := true } t)

/-- STC: the CCR's eight bits, I in bit 7 down to C in bit 0, to a register or to the even byte of a word whose odd byte is
open; no flag changes and no inhibit is set (R317, R318, D12; log 16). That STC.W @-ER7 runs also where ER7 is odd, its word
at the even address (R57), is log 11: U9 does not name it among the stack accesses of R60. -/
def Obligations.StoreCcr : Prop :=
  ∀ (s : State) (rd : Reg8) (erd : RegNum) (d16 : BitVec 16) (d24 : BitVec 24) (a16 : BitVec 16)
    (a24 : BitVec 24) (b : Byte), s.mem.wf →
    b.getLsbD 7 = s.ccr.i → b.getLsbD 6 = s.ccr.ui → b.getLsbD 5 = s.ccr.h → b.getLsbD 4 = s.ccr.u →
    b.getLsbD 3 = s.ccr.n → b.getLsbD 2 = s.ccr.z → b.getLsbD 1 = s.ccr.v → b.getLsbD 0 = s.ccr.c →
    let u := s.setReg32 erd (s.reg32 erd - 2#32)
    (∃ t, exec (.stcBReg rd) s = .next t ∧ wrote8 rd b s t ∧ t.ccr = s.ccr ∧ keptButRegs 2 s t) ∧
    (∀ p ∈ ([(.stcWInd erd, s.eaInd erd, 4), (.stcWD16 d16 erd, s.eaDisp16 erd d16, 6),
        (.stcWD24 d24 erd, s.eaDisp24 erd d24, 10), (.stcWA16 a16, eaAbs16 a16, 6), (.stcWA24 a24, a24, 8)] :
        List (Instr × Addr × Nat)),
      s.evenAddr p.2.1 ≠ s.nextPc p.2.2 →
      ∃ (t : State) (k : Nat) (x : Byte), exec p.1 s = .next t ∧ stored16 p.2.1 (b ++ x) s t ∧ t.ccr = s.ccr ∧
        t.pc = s.nextPc p.2.2 ∧ keptRegs s t ∧ keptRest k s t) ∧
    (s.evenAddr (u.eaInd erd) ≠ s.nextPc 4 →
      ∃ (t : State) (k : Nat) (x : Byte), exec (.stcWDec erd) s = .next t ∧ stored16 (u.eaInd erd) (b ++ x) s t ∧
        t.ccr = s.ccr ∧ t.pc = s.nextPc 4 ∧ keptRegs u t ∧ keptRest k s t)

/-- NOP and SLEEP: the pc goes to `next` and nothing else changes, but for SLEEP's processing state (R313, R322) and, in
software standby, the reset of the peripheral modules (R380; `noted .outside` is its form, log 36). -/
def Obligations.NopAndSleep : Prop :=
  ∀ s : State,
    (∃ t, exec .nop s = .next t ∧ keptRegs s t ∧ t.ccr = s.ccr ∧ keptButRegs 2 s t) ∧
    (∃ t, exec .sleep s = .next t ∧ keptRegs s t ∧ t.ccr = s.ccr ∧
      keptButRegs 2 (if s.cfg.ssby = true then { s.noted .outside with pstate := .softwareStandby }
        else { s with pstate := .sleep }) t)

/-- TRAPA #x with an even SP and a frame that does not lie over the word at `next`: exception handling is entered with vector
number 8 + x and the address after the TRAPA as saved PC, whatever I is (R312, R354, R358 to R361). -/
def Obligations.TrapEntry : Prop :=
  ∀ s : State, s.mem.wf → s.spOdd = false →
    let f : Addr := (s.reg32 .r7 - 4#32).setWidth 24
    s.evenAddr f ≠ s.nextPc 2 → s.evenAddr (f + 2#24) ≠ s.nextPc 2 →
    ∀ p ∈ ([(.trapa0, 8), (.trapa1, 9), (.trapa2, 10), (.trapa3, 11)] : List (Instr × Nat)),
      ∃ t, exec p.1 s = .next t ∧ enteredException p.2 (s.nextPc 2) s t

/-- RTE with an even SP: the CCR from the byte at SP, the pc from the low 24 bits (advanced mode) or the low 16 (normal mode)
of the long word at SP, ER7 up by 4 (R311, R367). -/
def Obligations.ReturnFromException : Prop :=
  ∀ s : State, s.spOdd = false →
    let w := s.readLong ((s.reg32 .r7).setWidth 24)
    ∃ t, exec .rte s = .next t ∧ wrote32 .r7 (s.reg32 .r7 + 4#32) s t ∧
      t.ccr.toByte = w.extractLsb' 24 8 ∧
      t.pc = s.evenAddr (match s.cfg.mode with
        | .normal => (w.extractLsb' 0 16).setWidth 24
        | .advanced => w.extractLsb' 0 24) ∧
      keptMemory (s.sawLong ((s.reg32 .r7).setWidth 24)) t ∧ keptRest 0 s t

/-- A TRAPA followed by RTE comes back: with an even SP, RAM everywhere, and no frame over the word at `next`, the pc is the
address after the TRAPA, and the registers and the whole CCR are as before it (R311, R312, R366, R367). -/
def Obligations.TrapThenReturn : Prop :=
  ∀ s : State, s.mem.wf → s.spOdd = false → (∀ b, s.writable b = true) →
    let f : Addr := (s.reg32 .r7 - 4#32).setWidth 24
    s.evenAddr f ≠ s.nextPc 2 → s.evenAddr (f + 2#24) ≠ s.nextPc 2 →
    ∀ i ∈ [Instr.trapa0, .trapa1, .trapa2, .trapa3],
      ∃ t u, exec i s = .next t ∧ exec .rte t = .next u ∧ u.pc = s.nextPc 2 ∧ keptRegs s u ∧ u.ccr = s.ccr

/-! ## Block transfer (spec/47_block_transfer.md) -/

/-- EEPMOV.B with `n` in R4L, where no byte stored to lies in the word at `next`: after the two dummy reads at ER5 and ER6,
through `n` turns `u 0, …, u n`, each reading the byte at ER5 + k, from memory as the turns before left it, and storing it at
ER6 + k; R4L ends at 0, ER5 and ER6 go up by `n`; nothing else changes and no other access is made (R341, R344, R63). -/
def Obligations.BlockTransferByte : Prop :=
  ∀ s : State, s.mem.wf →
    let n := (s.reg8 { low := true, n := .r4 }).toNat
    let src (k : Nat) : Addr := (s.reg32 .r5 + BitVec.ofNat 32 k).setWidth 24
    let dst (k : Nat) : Addr := (s.reg32 .r6 + BitVec.ofNat 32 k).setWidth 24
    (∀ k, k < n → s.evenAddr (dst k) ≠ s.nextPc 4) →
    ∃ (t : State) (u : Nat → State), exec .eepmovB s = .next t ∧ u 0 = (s.sawByte (src 0)).sawByte (dst 0) ∧
      (∀ k, k ≤ n → keptRest 0 s (u k)) ∧
      (∀ k, k < n → stored8 (dst k) ((u k).readByte (src k)) ((u k).sawByte (src k)) (u (k + 1))) ∧ keptMemory (u n) t ∧
      wrote8 { low := true, n := .r4 } 0#8
        ((s.setReg32 .r5 (s.reg32 .r5 + BitVec.ofNat 32 n)).setReg32 .r6 (s.reg32 .r6 + BitVec.ofNat 32 n)) t ∧
      t.ccr = s.ccr ∧ t.pc = s.nextPc 4 ∧ keptRest 0 s t

/-- EEPMOV.W with `n` in R4 and no NMI after any byte 1 to `n`: as EEPMOV.B with the 16-bit count. A cut of 0 or above `n` is
no cut: all bytes are copied and no exception is entered (R342, R344, R63; the cut's form is log 20). -/
def Obligations.BlockTransferWord : Prop :=
  ∀ s : State, s.mem.wf →
    let n := (s.reg16 { ext := false, n := .r4 }).toNat
    (∀ c, s.nmiCut = some c → c = 0 ∨ n < c) →
    let src (k : Nat) : Addr := (s.reg32 .r5 + BitVec.ofNat 32 k).setWidth 24
    let dst (k : Nat) : Addr := (s.reg32 .r6 + BitVec.ofNat 32 k).setWidth 24
    (∀ k, k < n → s.evenAddr (dst k) ≠ s.nextPc 4) →
    ∃ (t : State) (u : Nat → State), exec .eepmovW s = .next t ∧ u 0 = (s.sawByte (src 0)).sawByte (dst 0) ∧
      (∀ k, k ≤ n → keptRest 0 s (u k)) ∧
      (∀ k, k < n → stored8 (dst k) ((u k).readByte (src k)) ((u k).sawByte (src k)) (u (k + 1))) ∧ keptMemory (u n) t ∧
      wrote16 { ext := false, n := .r4 } 0#16
        ((s.setReg32 .r5 (s.reg32 .r5 + BitVec.ofNat 32 n)).setReg32 .r6 (s.reg32 .r6 + BitVec.ofNat 32 n)) t ∧
      t.ccr = s.ccr ∧ t.pc = s.nextPc 4 ∧ keptRest 0 s t

/-- EEPMOV.W with an NMI after byte `k`, 1 ≤ k ≤ n: R4 holds the bytes that remain, ER5 and ER6 the next transfer addresses,
and NMI exception handling is entered with the address after the instruction as saved PC (R342, D23; log 20). `m` is the state
with the bytes copied. -/
def Obligations.BlockTransferCutByNmi : Prop :=
  ∀ (s : State) (k : Nat), s.mem.wf → s.spOdd = false → s.nmiCut = some k →
    let n := (s.reg16 { ext := false, n := .r4 }).toNat
    let src (k : Nat) : Addr := (s.reg32 .r5 + BitVec.ofNat 32 k).setWidth 24
    let dst (k : Nat) : Addr := (s.reg32 .r6 + BitVec.ofNat 32 k).setWidth 24
    1 ≤ k → k ≤ n → (∀ j, j < k → s.evenAddr (dst j) ≠ s.nextPc 4) →
    ∃ (m t : State) (u : Nat → State), exec .eepmovW s = .next t ∧ u 0 = (s.sawByte (src 0)).sawByte (dst 0) ∧
      (∀ j, j ≤ k → keptRest 0 s (u j)) ∧
      (∀ j, j < k → stored8 (dst j) ((u j).readByte (src j)) ((u j).sawByte (src j)) (u (j + 1))) ∧ keptMemory (u k) m ∧
      wrote16 { ext := false, n := .r4 } (BitVec.ofNat 16 (n - k))
        ((s.setReg32 .r5 (s.reg32 .r5 + BitVec.ofNat 32 k)).setReg32 .r6 (s.reg32 .r6 + BitVec.ofNat 32 k)) m ∧
      m.ccr = s.ccr ∧ keptRest 0 s m ∧ enteredException s.cfg.nmiVector (s.nextPc 4) m t

/-! ## Interrupts, reset, processing states (spec/60_exceptions.md, spec/70_reset_and_hazards.md) -/

/-- At a boundary that detects interrupts, a selected request enters exception handling with its vector number (NMI's is the
product's) and the pc as saved PC (R353, R358, R362). -/
def Obligations.InterruptEntry : Prop :=
  ∀ (s : State) (p : List IrqRequest) (cut : Option Nat) (rest : List Event) (r : IrqRequest),
    s.mem.wf → s.pstate = .programExecution → s.irqInhibit = false → s.inputs = .requests p cut :: rest →
    s.select p = some r → s.spOdd = false →
    ∃ t, step s = .next t ∧
      enteredException (if r.nmi = true then s.cfg.nmiVector else r.v) s.pc { s with inputs := rest } t

/-- Which request is taken: one that passes the mask test and that no other accepted request outranks, an NMI if there is one,
none only if none passes; NMI passes whatever I is, every request passes while I is 0, and while I is 1 and UI is no mask bit
only NMI passes (R363, R364). -/
def Obligations.InterruptSelection : Prop :=
  ∀ (s : State) (p : List IrqRequest) (q r : IrqRequest),
    (s.select p = none → q ∈ p → s.accepts q = false) ∧
    (s.select p = some r → r ∈ p ∧ s.accepts r = true ∧
      (q ∈ p → s.accepts q = true → s.outranks q r = false ∧ (q.nmi = true → r.nmi = true))) ∧
    (q.nmi = true → s.accepts q = true) ∧ (s.ccr.i = false → s.accepts q = true) ∧
    (s.ccr.i = true → s.cfg.uiIsMask = false → q.nmi = false → s.accepts q = false)

/-- In sleep, and in software standby among the requests that wake, a selected request enters exception handling with the pc,
the address after the SLEEP, as saved PC; if none is selected nothing changes but the event (R313, R379, R380, R383). -/
def Obligations.WakeFromSleep : Prop :=
  ∀ (s : State) (p seen : List IrqRequest) (cut : Option Nat) (rest : List Event), s.mem.wf →
    s.inputs = .requests p cut :: rest →
    (s.pstate = .sleep ∧ seen = p ∨ s.pstate = .softwareStandby ∧ seen = p.filter (fun r => r.wakes)) →
    (s.select seen = none → step s = .next { s with inputs := rest }) ∧
    (∀ r, s.select seen = some r → s.spOdd = false →
      ∃ t, step s = .next t ∧
        enteredException (if r.nmi = true then s.cfg.nmiVector else r.v) s.pc { s with inputs := rest } t)

/-- RES low, RES high, and reset exception handling, from any state but hardware standby: I is 1 from the first on; in the
reset state nothing runs; reset exception handling takes no request, NMI included, whichever are presented; at the end the pc
is what the vector at address 0 holds, interrupts are inhibited for one boundary, the program runs, nothing was stored and the
vector was read (`.outside` stands for the reset of the peripheral modules, log 36), and memory is as it was but for the bytes `aborted` names, the ones the aborted instruction may have written
(R369, R378, R390, R391; the vector number is D2, log 6). Two clauses are the model's choices: that the registers and the pc
still hold their old values at RES low, which nothing can see before they are drawn anew, and the list `aborted`, are log 22;
that reset exception handling is a step of its own, from the state `exceptionHandling` at rest, is log 30. -/
def Obligations.ResetSequence : Prop :=
  ∀ (s : State) (aborted : List Nat) (p : List IrqRequest) (cut : Option Nat) (rest : List Event), s.mem.wf →
    s.pstate ≠ .hardwareStandby → s.inputs = .resLow aborted :: .resHigh :: .requests p cut :: rest →
    ∃ t1 t2 t3, step s = .next t1 ∧ step t1 = .next t2 ∧ step t2 = .next t3 ∧
      t1.pstate = .resetState ∧ t1.ccr.i = true ∧ t1.er = s.er ∧ t1.pc = s.pc ∧
      t2.pstate = .exceptionHandling ∧ t2.ccr.i = true ∧ t2.trace = .outside :: s.trace ∧
      t3.pstate = .programExecution ∧ t3.ccr.i = true ∧ t3.irqInhibit = true ∧ t3.inputs = rest ∧
      t2.cfg = s.cfg ∧ t3.cfg = s.cfg ∧ t3.pc = s.evenAddr (entryAt 0#24 t2) ∧ keptMemory (t2.sawEntry 0#24) t3 ∧
      (∀ b, s.steady b = true → b ∉ aborted.map (fun a => s.byteAddr (BitVec.ofNat 24 a)) → t3.peek b = s.peek b)

/-- While the CPU is in the reset state, in hardware standby or without the bus, no request is accepted and nothing runs: the
state is kept but for the event (R377, R378, R382). And how it comes to stand still and goes on: STBY low leads from any state
to hardware standby with memory kept (the registers are lost: D21, log 23); STBY high leads from there to the reset state with I
set (R376, R378); a bus request stops the program and changes nothing else; when the bus comes back the program goes on with the
CPU as it was, and each byte of RAM holds the last value the other master wrote there, or what it held (R376, R377, D21,
log 24). -/
def Obligations.NothingRunsWhileStopped : Prop :=
  (∀ (s : State) (p : List IrqRequest) (cut : Option Nat) (rest : List Event),
    (s.pstate = .resetState ∨ s.pstate = .hardwareStandby ∨ s.pstate = .busReleased) →
    s.inputs = .requests p cut :: rest → step s = .next { s with inputs := rest }) ∧
  (∀ (s : State) (rest : List Event), s.inputs = .stbyLow :: rest →
    ∃ t, step s = .next t ∧ t.pstate = .hardwareStandby ∧ keptMemory (s.noted .outside) t ∧ t.cfg = s.cfg ∧ t.inputs = rest) ∧
  (∀ (s : State) (rest : List Event), s.pstate = .hardwareStandby → s.inputs = .stbyHigh :: rest →
    ∃ t, step s = .next t ∧ t.pstate = .resetState ∧ t.ccr.i = true ∧ keptMemory s t ∧ t.cfg = s.cfg ∧ t.inputs = rest) ∧
  (∀ (s : State) (rest : List Event), s.pstate = .programExecution → s.inputs = .busRequest :: rest →
    step s = .next { s with pstate := .busReleased, inputs := rest }) ∧
  (∀ (s : State) (writes : List Host.Cell) (rest : List Event), s.mem.wf → s.pstate = .busReleased →
    s.inputs = .busReturn writes :: rest →
    ∃ t, step s = .next t ∧ keptRegs s t ∧ t.pc = s.pc ∧ t.ccr = s.ccr ∧ t.trace = .outside :: s.trace ∧
      keptRest 0 { s with pstate := .programExecution, inputs := rest } t ∧
      (∀ b, s.steady b = true → (s.writable b = false ∨ ∀ w ∈ writes, s.byteAddr (BitVec.ofNat 24 w.1) ≠ b) →
        t.peek b = s.peek b) ∧
      (∀ a v before after, writes = before ++ (a, v) :: after →
        (∀ w ∈ after, s.byteAddr (BitVec.ofNat 24 w.1) ≠ s.byteAddr (BitVec.ofNat 24 a)) →
        s.writable (s.byteAddr (BitVec.ofNat 24 a)) = true → t.peek (s.byteAddr (BitVec.ofNat 24 a)) = v))

/-- A word-sized stack access with an odd SP stops by name, and so do MOVFPE and MOVTPE without an E clock; an exception entry
with an odd SP stops too: an interrupt taken by the running program, one that ends sleep or software standby, and the NMI that
cuts EEPMOV.W (R60, R148, R149, U9, U10; the cut's form is log 20). -/
def Obligations.OddStackAndEclockStops : Prop :=
  ∀ (s : State) (rn : Reg16) (rb : Reg8) (er : RegNum) (d : Disp) (a24 : BitVec 24) (a16 : BitVec 16)
    (a8 : BitVec 8) (p : List IrqRequest) (r : IrqRequest) (cut : Option Nat) (rest : List Event),
    (s.spOdd = true → ∀ i ∈ [Instr.popW rn, .popL er, .pushW rn, .pushL er, .movWLdInc .r7 rn, .movLLdInc .r7 er,
        .movWStDec rn .r7, .movLStDec er .r7, .bsr d, .jsrInd er, .jsrAbs a24, .jsrMem a8, .rts, .rte, .trapa0,
        .trapa1, .trapa2, .trapa3],
      exec i s = .refused .oddStackPointer) ∧
    (s.spOdd = true → s.pstate = .programExecution → s.irqInhibit = false → s.inputs = .requests p cut :: rest →
      s.select p = some r → step s = .refused .oddStackPointer) ∧
    (∀ seen, (s.pstate = .sleep ∧ seen = p ∨ s.pstate = .softwareStandby ∧ seen = p.filter (fun r => r.wakes)) →
      s.spOdd = true → s.inputs = .requests p cut :: rest → s.select seen = some r →
      step s = .refused .oddStackPointer) ∧
    (∀ k, s.spOdd = true → s.nmiCut = some k → 1 ≤ k → k ≤ (s.reg16 { ext := false, n := .r4 }).toNat →
      (∀ j, j < k → s.evenAddr ((s.reg32 .r6 + BitVec.ofNat 32 j).setWidth 24) ≠ s.nextPc 4) →
      exec .eepmovW s = .refused .oddStackPointer) ∧
    (s.cfg.hasEclock = false → ∀ i ∈ [Instr.movfpe a16 rb, .movtpe rb a16],
      exec i s = .refused .eclockNotAvailable)

/-- Each storing instruction stops by name where a byte or word it stores to lies over the two bytes at `next` (R73, U8): with
the address the instruction stores to and its length. A stack access needs an even SP and MOVTPE an E clock, so that no other
stop comes first; EEPMOV stops at whichever byte lies there, if an NMI does not end EEPMOV.W before it. -/
def Obligations.StoreOverNextStops : Prop :=
  ∀ (s : State) (rb : Reg8) (rw : Reg16) (er erd : RegNum) (n : BitVec 3) (d16 : BitVec 16) (d24 : BitVec 24)
    (a8 : BitVec 8) (a16 : BitVec 16) (a24 : BitVec 24),
    let dec (k : Long) : Addr := (s.reg32 erd - k).setWidth 24
    let push (k : Long) : Addr := (s.reg32 .r7 - k).setWidth 24
    let dst (k : Nat) : Addr := (s.reg32 .r6 + BitVec.ofNat 32 k).setWidth 24
    (∀ p ∈ ([(.movBStInd rb erd, s.eaInd erd, 2), (.movBStD16 rb d16 erd, s.eaDisp16 erd d16, 4),
        (.movBStD24 rb d24 erd, s.eaDisp24 erd d24, 8), (.movBStDec rb erd, dec 1#32, 2),
        (.movBStA8 rb a8, eaAbs8 a8, 2), (.movBStA16 rb a16, eaAbs16 a16, 4), (.movBStA24 rb a24, a24, 6),
        (.movWStInd rw erd, s.eaInd erd, 2), (.movWStD16 rw d16 erd, s.eaDisp16 erd d16, 4),
        (.movWStD24 rw d24 erd, s.eaDisp24 erd d24, 8),
        (.movWStA16 rw a16, eaAbs16 a16, 4), (.movWStA24 rw a24, a24, 6),
        (.stcWInd erd, s.eaInd erd, 4), (.stcWD16 d16 erd, s.eaDisp16 erd d16, 6),
        (.stcWD24 d24 erd, s.eaDisp24 erd d24, 10), (.stcWDec erd, dec 2#32, 4), (.stcWA16 a16, eaAbs16 a16, 6),
        (.stcWA24 a24, a24, 8),
        (.bsetImmInd n erd, s.eaInd erd, 4), (.bsetRegInd rb erd, s.eaInd erd, 4),
        (.bclrImmInd n erd, s.eaInd erd, 4), (.bclrRegInd rb erd, s.eaInd erd, 4),
        (.bnotImmInd n erd, s.eaInd erd, 4), (.bnotRegInd rb erd, s.eaInd erd, 4),
        (.bstInd n erd, s.eaInd erd, 4), (.bistInd n erd, s.eaInd erd, 4),
        (.bsetImmAbs n a8, eaAbs8 a8, 4), (.bsetRegAbs rb a8, eaAbs8 a8, 4),
        (.bclrImmAbs n a8, eaAbs8 a8, 4), (.bclrRegAbs rb a8, eaAbs8 a8, 4),
        (.bnotImmAbs n a8, eaAbs8 a8, 4), (.bnotRegAbs rb a8, eaAbs8 a8, 4),
        (.bstAbs n a8, eaAbs8 a8, 4), (.bistAbs n a8, eaAbs8 a8, 4)] : List (Instr × Addr × Nat)),
      s.evenAddr p.2.1 = s.nextPc p.2.2 → exec p.1 s = .refused .storeIntoPrefetchedWord) ∧
    (s.cfg.hasEclock = true → s.evenAddr (eaAbs16 a16) = s.nextPc 4 →
      exec (.movtpe rb a16) s = .refused .storeIntoPrefetchedWord) ∧
    (∀ p ∈ ([(.movLStInd er erd, s.eaInd erd, 4), (.movLStD16 er d16 erd, s.eaDisp16 erd d16, 6),
        (.movLStD24 er d24 erd, s.eaDisp24 erd d24, 10), (.movLStA16 er a16, eaAbs16 a16, 6),
        (.movLStA24 er a24, a24, 8)] : List (Instr × Addr × Nat)),
      s.evenAddr p.2.1 = s.nextPc p.2.2 ∨ s.evenAddr (p.2.1 + 2#24) = s.nextPc p.2.2 →
      exec p.1 s = .refused .storeIntoPrefetchedWord) ∧
    ((erd = .r7 → s.spOdd = false) →
      (s.evenAddr (dec 2#32) = s.nextPc 2 → exec (.movWStDec rw erd) s = .refused .storeIntoPrefetchedWord) ∧
      (s.evenAddr (dec 4#32) = s.nextPc 4 ∨ s.evenAddr (dec 4#32 + 2#24) = s.nextPc 4 →
        exec (.movLStDec er erd) s = .refused .storeIntoPrefetchedWord)) ∧
    (s.spOdd = false →
      (s.evenAddr (push 2#32) = s.nextPc 2 → exec (.pushW rw) s = .refused .storeIntoPrefetchedWord) ∧
      (∀ p ∈ ([(.pushL er, 4), (.trapa0, 2), (.trapa1, 2), (.trapa2, 2), (.trapa3, 2)] : List (Instr × Nat)),
        s.evenAddr (push 4#32) = s.nextPc p.2 ∨ s.evenAddr (push 4#32 + 2#24) = s.nextPc p.2 →
        exec p.1 s = .refused .storeIntoPrefetchedWord) ∧
      (∀ p ∈ ([(.bsr (.d8 a8), 2), (.bsr (.d16 a16), 4), (.jsrInd erd, 2), (.jsrAbs a24, 4), (.jsrMem a8, 2)] :
          List (Instr × Nat)),
        s.evenAddr (push 2#32) = s.nextPc p.2 ∨
          (s.cfg.mode = .advanced ∧ s.evenAddr (push 4#32) = s.nextPc p.2) →
        exec p.1 s = .refused .storeIntoPrefetchedWord)) ∧
    (∀ k, s.evenAddr (dst k) = s.nextPc 4 →
      (k < (s.reg8 { low := true, n := .r4 }).toNat → exec .eepmovB s = .refused .storeIntoPrefetchedWord) ∧
      (k < (s.reg16 { ext := false, n := .r4 }).toNat → (∀ c, s.nmiCut = some c → c = 0 ∨ k < c) →
        exec .eepmovW s = .refused .storeIntoPrefetchedWord))

/-! ## The whole machine -/

/-- Every step keeps the invariant: memory in its canonical form, the pc even and inside the mode's address space; and no step
changes the product's parameters (R8, R25, R27). -/
def Obligations.StepKeepsInvariant : Prop :=
  ∀ s t : State, s.inv → step s = .next t → t.inv ∧ t.cfg = s.cfg

/-- State.reset meets the invariant and holds what the spec gives for reset: I is 1, interrupts are inhibited for one boundary,
the program runs, the pc is the contents of the vector at address 0 (R391; the vector number is D2, log 6; which memory is log
4). -/
def Obligations.ResetStateIsAsSpecified : Prop :=
  State.reset.inv ∧ State.reset.ccr.i = true ∧ State.reset.irqInhibit = true ∧
    State.reset.pstate = .programExecution ∧
    State.reset.pc = State.reset.evenAddr (entryAt 0#24 State.reset)

/-- Who writes I, UI and U and who inhibits interrupts: an instruction other than LDC, ANDC, ORC, XORC, RTE leaves I, UI and U
and the inhibit as they were; but TRAPA, and EEPMOV.W when an NMI cuts it after one of its bytes 1 to n, set I, and UI where it
is a mask bit, and leave U and the inhibit; RTE leaves the inhibit (R29, R30, R32, R37, R323, R342, D23; the cut's form is
log 20). -/
def Obligations.MaskBitsAndInhibit : Prop :=
  ∀ (i : Instr) (s t : State), exec i s = .next t →
    (∀ (rs : Reg8) (ers : RegNum) (b : Byte) (d16 a16 : BitVec 16) (d24 a24 : BitVec 24),
      i ∉ [.ldcBImm b, .ldcBReg rs, .ldcWInd ers, .ldcWD16 d16 ers, .ldcWD24 d24 ers, .ldcWInc ers, .ldcWA16 a16,
        .ldcWA24 a24, .andc b, .orc b, .xorc b]) →
    let enters : Prop := i ∈ [.trapa0, .trapa1, .trapa2, .trapa3] ∨
      i = .eepmovW ∧ ∃ k, s.nmiCut = some k ∧ 1 ≤ k ∧ k ≤ (s.reg16 { ext := false, n := .r4 }).toNat
    t.irqInhibit = s.irqInhibit ∧
    (i ≠ .rte → t.ccr.u = s.ccr.u ∧
      (¬enters → t.ccr.i = s.ccr.i ∧ t.ccr.ui = s.ccr.ui) ∧
      (enters → t.ccr.i = true ∧ t.ccr.ui = (s.cfg.uiIsMask || s.ccr.ui)))
end

