-- ==== Sys2Proof/Laws/Decode.lean ====
section
/-! SUPPORT. Fields in and out of bytes: what the decoder reads is what the encoder put there. -/

namespace Sys2Proof

@[simp] theorem Nibble.ofBits_bits (x : Nibble) : Nibble.ofBits x.bits = x := by cases x <;> rfl

@[simp] theorem Nibble.bits_ofBits (b : BitVec 4) : (Nibble.ofBits b).bits = b := by
  revert b
  decide

@[simp] theorem hiNib_nibs (h l : Nibble) : hiNib (nibs h l) = h := by cases h <;> cases l <;> rfl

@[simp] theorem loNib_nibs (h l : Nibble) : loNib (nibs h l) = l := by cases h <;> cases l <;> rfl

@[simp] theorem nibs_hiNib_loNib (b : Byte) : nibs (hiNib b) (loNib b) = b := by
  simp only [nibs, hiNib, loNib, Nibble.bits_ofBits]
  ext i hi
  simp only [BitVec.getElem_append, BitVec.getElem_extractLsb']
  split
  · simp [BitVec.getLsbD_eq_getElem hi]
  · have e : 4 + (i - 4) = i := by omega
    rw [e]
    exact BitVec.getLsbD_eq_getElem hi

@[simp] theorem reg_regNib (b : Bool) (r : RegNum) : (regNib b r).reg = (b, r) := by cases b <;> cases r <;> rfl

@[simp] theorem regNib_reg (x : Nibble) : regNib x.reg.1 x.reg.2 = x := by cases x <;> rfl

@[simp] theorem bit_bitNib (b : Bool) (n : BitVec 3) : (bitNib b n).bit = (b, n) := by
  revert n
  cases b <;> decide

@[simp] theorem bitNib_bit (x : Nibble) : bitNib x.bit.1 x.bit.2 = x := by cases x <;> rfl

@[simp] theorem reg8_nib (r : Reg8) : r.nib.reg8 = r := by
  simp [Reg8.nib, Nibble.reg8]

@[simp] theorem reg16_nib (r : Reg16) : r.nib.reg16 = r := by
  simp [Reg16.nib, Nibble.reg16]

@[simp] theorem nib_reg8 (x : Nibble) : x.reg8.nib = x := by simp [Reg8.nib, Nibble.reg8]

@[simp] theorem nib_reg16 (x : Nibble) : x.reg16.nib = x := by simp [Reg16.nib, Nibble.reg16]

@[simp] theorem reg_nib0 (r : RegNum) : r.nib0.reg = (false, r) := by simp [RegNum.nib0]

@[simp] theorem reg_nib1 (r : RegNum) : r.nib1.reg = (true, r) := by simp [RegNum.nib1]

@[simp] theorem reg0_nib0 (r : RegNum) : r.nib0.reg0 = some r := by simp [Nibble.reg0]

@[simp] theorem reg1_nib1 (r : RegNum) : r.nib1.reg1 = some r := by simp [Nibble.reg1]

@[simp] theorem bit0_bitNib (n : BitVec 3) : (bitNib false n).bit0 = some n := by simp [Nibble.bit0]

theorem reg0_eq_some {x : Nibble} {r : RegNum} : x.reg0 = some r ↔ x = r.nib0 := by
  cases x <;> cases r <;> decide

theorem reg1_eq_some {x : Nibble} {r : RegNum} : x.reg1 = some r ↔ x = r.nib1 := by
  cases x <;> cases r <;> decide

theorem bit0_eq_some {x : Nibble} {n : BitVec 3} : x.bit0 = some n ↔ x = bitNib false n := by
  revert n
  cases x <;> decide

/-- A nibble `1ers` is not the nibble 0: the two halves of `decodeA` do not meet. -/
theorem nib1_ne_x0 (r : RegNum) : r.nib1 ≠ .x0 := by cases r <;> decide

@[simp] theorem be16_bytes (x : BitVec 16) : be16 (x.extractLsb' 8 8) (x.extractLsb' 0 8) = x := by
  ext i hi
  simp [be16]
  grind

@[simp] theorem be24_bytes (x : BitVec 24) :
    be24 (x.extractLsb' 16 8) (x.extractLsb' 8 8) (x.extractLsb' 0 8) = x := by
  ext i hi
  simp [be24]
  grind

@[simp] theorem be32_bytes (x : BitVec 32) :
    be32 (x.extractLsb' 24 8) (x.extractLsb' 16 8) (x.extractLsb' 8 8) (x.extractLsb' 0 8) = x := by
  ext i hi
  simp [be32]
  grind

@[simp] theorem ext16_bytes16 {α : Type} (x : BitVec 16) (t : List Byte) (k : BitVec 16 → Option α) :
    ext16 (bytes16 x ++ t) k = k x := by
  simp [ext16, bytes16]

@[simp] theorem ext24_bytes24 {α : Type} (x : BitVec 24) (t : List Byte) (k : BitVec 24 → Option α) :
    ext24 (0#8 :: (bytes24 x ++ t)) k = k x := by
  simp [ext24, bytes24]

@[simp] theorem ext32_bytes32 {α : Type} (x : BitVec 32) (t : List Byte) (k : BitVec 32 → Option α) :
    ext32 (bytes32 x ++ t) k = k x := by
  simp [ext32, bytes32]

end Sys2Proof
end

