-- ==== Sys2Proof/Laws/Memory.lean ====
section
/-! SUPPORT. The laws of memory: a read after a write, and every operation keeps the canonical form. -/

namespace Sys2Proof.Machine

section Lists
variable {α : Type}

@[simp] theorem lookupAt_nil (a : Nat) : lookupAt ([] : List (Nat × α)) a = none := rfl

theorem lookupAt_eq_none {l : List (Nat × α)} {a : Nat} (h : a ∉ l.map Prod.fst) : lookupAt l a = none := by
  induction l with
  | nil => rfl
  | cons e t ih =>
    obtain ⟨k, v⟩ := e
    simp only [List.map_cons, List.mem_cons, not_or] at h
    simp [lookupAt, Ne.symm h.1, ih h.2]

theorem mem_of_lookupAt {l : List (Nat × α)} {a : Nat} {v : α} (h : lookupAt l a = some v) : (a, v) ∈ l := by
  induction l with
  | nil => simp at h
  | cons e t ih =>
    obtain ⟨k, w⟩ := e
    unfold lookupAt at h
    split at h
    · next hk => cases hk; cases h; exact List.mem_cons_self
    · exact List.mem_cons_of_mem _ (ih h)

theorem mem_insertAt {a : Nat} {v : α} {l : List (Nat × α)} {e : Nat × α} (h : e ∈ insertAt a v l) :
    e = (a, v) ∨ e ∈ l := by
  induction l with
  | nil => simpa [insertAt] using h
  | cons x t ih =>
    obtain ⟨k, w⟩ := x
    unfold insertAt at h
    split at h
    · simpa using h
    · split at h
      · rcases List.mem_cons.1 h with h | h
        · exact .inl h
        · exact .inr (List.mem_cons_of_mem _ h)
      · rcases List.mem_cons.1 h with h | h
        · exact .inr (h ▸ List.mem_cons_self)
        · exact (ih h).imp_right (List.mem_cons_of_mem _)

theorem mem_eraseAt {a : Nat} {l : List (Nat × α)} {e : Nat × α} (h : e ∈ eraseAt a l) : e ∈ l := by
  induction l with
  | nil => exact h
  | cons x t ih =>
    obtain ⟨k, w⟩ := x
    unfold eraseAt at h
    split at h
    · exact List.mem_cons_of_mem _ h
    · rcases List.mem_cons.1 h with h | h
      · exact h ▸ List.mem_cons_self
      · exact List.mem_cons_of_mem _ (ih h)

/-- Addresses strictly rising. -/
abbrev Rising (l : List (Nat × α)) : Prop := (l.map Prod.fst).Pairwise (· < ·)

theorem rising_cons {k : Nat} {w : α} {t : List (Nat × α)} :
    Rising ((k, w) :: t) ↔ (∀ e ∈ t, k < e.1) ∧ Rising t := by
  simp [Rising, List.pairwise_cons]

theorem rising_insertAt {a : Nat} {v : α} {l : List (Nat × α)} (h : Rising l) : Rising (insertAt a v l) := by
  induction l with
  | nil => simp [insertAt, Rising]
  | cons x t ih =>
    obtain ⟨k, w⟩ := x
    obtain ⟨hk, ht⟩ := rising_cons.1 h
    unfold insertAt
    split
    · next hlt =>
      refine rising_cons.2 ⟨fun e he => ?_, h⟩
      rcases List.mem_cons.1 he with rfl | he
      · exact hlt
      · exact Nat.lt_trans hlt (hk e he)
    · split
      · next heq => exact rising_cons.2 ⟨fun e he => heq ▸ hk e he, ht⟩
      · next hnl hne =>
        refine rising_cons.2 ⟨fun e he => ?_, ih ht⟩
        rcases mem_insertAt he with rfl | he
        · simp only; omega
        · exact hk e he

theorem rising_eraseAt {a : Nat} {l : List (Nat × α)} (h : Rising l) : Rising (eraseAt a l) := by
  induction l with
  | nil => simp [eraseAt, Rising]
  | cons x t ih =>
    obtain ⟨k, w⟩ := x
    obtain ⟨hk, ht⟩ := rising_cons.1 h
    unfold eraseAt
    split
    · exact ht
    · exact rising_cons.2 ⟨fun e he => hk e (mem_eraseAt he), ih ht⟩

theorem not_mem_eraseAt {a : Nat} {l : List (Nat × α)} (h : Rising l) : a ∉ (eraseAt a l).map Prod.fst := by
  induction l with
  | nil => simp [eraseAt]
  | cons x t ih =>
    obtain ⟨k, w⟩ := x
    obtain ⟨hk, ht⟩ := rising_cons.1 h
    unfold eraseAt
    split
    · next heq =>
      intro hm
      obtain ⟨e, he, rfl⟩ := List.mem_map.1 hm
      have := hk e he
      omega
    · next hne =>
      simp only [List.map_cons, List.mem_cons, not_or]
      exact ⟨Ne.symm hne, ih ht⟩

theorem lookupAt_insertAt (a b : Nat) (v : α) (l : List (Nat × α)) :
    lookupAt (insertAt a v l) b = if a = b then some v else lookupAt l b := by
  induction l with
  | nil => simp [insertAt, lookupAt]
  | cons x t ih =>
    obtain ⟨k, w⟩ := x
    simp only [insertAt]
    split
    · simp [lookupAt]
    · split
      · next heq => subst heq; simp only [lookupAt]; split <;> rfl
      · next hnl hne =>
        simp only [lookupAt, ih]
        split
        · next hk => subst hk; simp [hne]
        · rfl

theorem lookupAt_eraseAt {a : Nat} {l : List (Nat × α)} (h : Rising l) (b : Nat) :
    lookupAt (eraseAt a l) b = if a = b then none else lookupAt l b := by
  induction l with
  | nil => simp [eraseAt]
  | cons x t ih =>
    obtain ⟨k, w⟩ := x
    obtain ⟨hk, ht⟩ := rising_cons.1 h
    simp only [eraseAt]
    split
    · next heq =>
      subst heq
      simp only [lookupAt]
      split
      · next hb =>
        subst hb
        exact lookupAt_eq_none fun hm => by
          obtain ⟨e, he, hek⟩ := List.mem_map.1 hm
          have := hk e he
          omega
      · rfl
    · next hne =>
      simp only [lookupAt, ih ht]
      split
      · next hb => subst hb; simp [Ne.symm hne]
      · rfl

end Lists

/-- Every address in the canonical form's two lists after a write is the written one or was listed before. -/
theorem Memory.wf_write {m : Memory} (h : m.wf) {a : Nat} (ha : a < 2 ^ 24) (b : Byte) : (m.write a b).wf := by
  obtain ⟨hc, hd, hcell, hdraw⟩ := h
  refine ⟨?_, rising_eraseAt hd, ?_, fun e he => hdraw e (mem_eraseAt he)⟩
  · unfold Memory.write
    dsimp only
    split
    · exact rising_eraseAt hc
    · exact rising_insertAt hc
  · intro e he
    have keep : ∀ e ∈ m.cells, e.1 < 2 ^ 24 ∧ e.2 ≠ Config.unlisted ∧ e.1 ∉ (eraseAt a m.draws).map Prod.fst :=
      fun e he => by
        obtain ⟨h1, h2, h3⟩ := hcell e he
        refine ⟨h1, h2, fun hm => h3 ?_⟩
        obtain ⟨x, hx, hxe⟩ := List.mem_map.1 hm
        exact List.mem_map.2 ⟨x, mem_eraseAt hx, hxe⟩
    unfold Memory.write at he
    dsimp only at he
    split at he
    · exact keep e (mem_eraseAt he)
    · next hb =>
      rcases mem_insertAt he with rfl | he
      · exact ⟨ha, hb, not_mem_eraseAt hd⟩
      · exact keep e he

theorem Memory.wf_writeFree {m : Memory} (h : m.wf) {a : Nat} (ha : a < 2 ^ 24) (n : Nat) :
    (m.writeFree a n).wf := by
  obtain ⟨hc, hd, hcell, hdraw⟩ := h
  refine ⟨rising_eraseAt hc, rising_insertAt hd, ?_, ?_⟩
  · intro e he
    obtain ⟨h1, h2, h3⟩ := hcell e (mem_eraseAt he)
    refine ⟨h1, h2, fun hm => ?_⟩
    obtain ⟨x, hx, hxe⟩ := List.mem_map.1 hm
    rcases mem_insertAt hx with rfl | hx
    · exact not_mem_eraseAt hc (List.mem_map.2 ⟨e, he, hxe.symm⟩)
    · exact h3 (List.mem_map.2 ⟨x, hx, hxe⟩)
  · intro e he
    rcases mem_insertAt he with rfl | he
    · exact ha
    · exact hdraw e he

theorem Memory.read_write {m : Memory} (h : m.wf) (a b : Nat) (v : Byte) :
    (m.write a v).read b = if a = b then v else m.read b := by
  obtain ⟨hc, hd, -, -⟩ := h
  simp only [Memory.read, Memory.write]
  by_cases hv : v = Config.unlisted
  · simp only [hv, if_true, lookupAt_eraseAt hc, lookupAt_eraseAt hd]
    by_cases hab : a = b <;> simp [hab]
  · simp only [hv, if_false, lookupAt_insertAt, lookupAt_eraseAt hd]
    by_cases hab : a = b <;> simp [hab]

theorem Memory.read_writeFree {m : Memory} (h : m.wf) (a b n : Nat) :
    (m.writeFree a n).read b = if a = b then Config.freeByte n else m.read b := by
  obtain ⟨hc, hd, -, -⟩ := h
  simp only [Memory.read, Memory.writeFree, lookupAt_eraseAt hc, lookupAt_insertAt]
  by_cases hab : a = b <;> simp [hab]

end Sys2Proof.Machine
end

