-- ==== Sys2Proof/Laws/State.lean ====
section
/-! SUPPORT. One lemma per field per update of the state. -/

namespace Sys2Proof.Machine

/-! ## setReg32 -/

@[simp] theorem State.setReg32_er (s : State) (n : RegNum) (v : Long) : (s.setReg32 n v).er = s.er.set n v := rfl
@[simp] theorem State.setReg32_pc (s : State) (n : RegNum) (v : Long) : (s.setReg32 n v).pc = s.pc := rfl
@[simp] theorem State.setReg32_ccr (s : State) (n : RegNum) (v : Long) : (s.setReg32 n v).ccr = s.ccr := rfl
@[simp] theorem State.setReg32_pstate (s : State) (n : RegNum) (v : Long) : (s.setReg32 n v).pstate = s.pstate := rfl
@[simp] theorem State.setReg32_irqInhibit (s : State) (n : RegNum) (v : Long) : (s.setReg32 n v).irqInhibit = s.irqInhibit := rfl
@[simp] theorem State.setReg32_mem (s : State) (n : RegNum) (v : Long) : (s.setReg32 n v).mem = s.mem := rfl
@[simp] theorem State.setReg32_cfg (s : State) (n : RegNum) (v : Long) : (s.setReg32 n v).cfg = s.cfg := rfl
@[simp] theorem State.setReg32_inputs (s : State) (n : RegNum) (v : Long) : (s.setReg32 n v).inputs = s.inputs := rfl
@[simp] theorem State.setReg32_nmiCut (s : State) (n : RegNum) (v : Long) : (s.setReg32 n v).nmiCut = s.nmiCut := rfl
@[simp] theorem State.setReg32_draws (s : State) (n : RegNum) (v : Long) : (s.setReg32 n v).draws = s.draws := rfl
@[simp] theorem State.setReg32_trace (s : State) (n : RegNum) (v : Long) : (s.setReg32 n v).trace = s.trace := rfl

/-! ## setReg16 -/

@[simp] theorem State.setReg16_er (s : State) (r : Reg16) (v : Word) : (s.setReg16 r v).er = s.er.set r.n (setWordView (s.reg32 r.n) r.ext v) := rfl
@[simp] theorem State.setReg16_pc (s : State) (r : Reg16) (v : Word) : (s.setReg16 r v).pc = s.pc := rfl
@[simp] theorem State.setReg16_ccr (s : State) (r : Reg16) (v : Word) : (s.setReg16 r v).ccr = s.ccr := rfl
@[simp] theorem State.setReg16_pstate (s : State) (r : Reg16) (v : Word) : (s.setReg16 r v).pstate = s.pstate := rfl
@[simp] theorem State.setReg16_irqInhibit (s : State) (r : Reg16) (v : Word) : (s.setReg16 r v).irqInhibit = s.irqInhibit := rfl
@[simp] theorem State.setReg16_mem (s : State) (r : Reg16) (v : Word) : (s.setReg16 r v).mem = s.mem := rfl
@[simp] theorem State.setReg16_cfg (s : State) (r : Reg16) (v : Word) : (s.setReg16 r v).cfg = s.cfg := rfl
@[simp] theorem State.setReg16_inputs (s : State) (r : Reg16) (v : Word) : (s.setReg16 r v).inputs = s.inputs := rfl
@[simp] theorem State.setReg16_nmiCut (s : State) (r : Reg16) (v : Word) : (s.setReg16 r v).nmiCut = s.nmiCut := rfl
@[simp] theorem State.setReg16_draws (s : State) (r : Reg16) (v : Word) : (s.setReg16 r v).draws = s.draws := rfl
@[simp] theorem State.setReg16_trace (s : State) (r : Reg16) (v : Word) : (s.setReg16 r v).trace = s.trace := rfl

/-! ## setReg8 -/

@[simp] theorem State.setReg8_er (s : State) (r : Reg8) (v : Byte) : (s.setReg8 r v).er = s.er.set r.n (setByteView (s.reg32 r.n) r.low v) := rfl
@[simp] theorem State.setReg8_pc (s : State) (r : Reg8) (v : Byte) : (s.setReg8 r v).pc = s.pc := rfl
@[simp] theorem State.setReg8_ccr (s : State) (r : Reg8) (v : Byte) : (s.setReg8 r v).ccr = s.ccr := rfl
@[simp] theorem State.setReg8_pstate (s : State) (r : Reg8) (v : Byte) : (s.setReg8 r v).pstate = s.pstate := rfl
@[simp] theorem State.setReg8_irqInhibit (s : State) (r : Reg8) (v : Byte) : (s.setReg8 r v).irqInhibit = s.irqInhibit := rfl
@[simp] theorem State.setReg8_mem (s : State) (r : Reg8) (v : Byte) : (s.setReg8 r v).mem = s.mem := rfl
@[simp] theorem State.setReg8_cfg (s : State) (r : Reg8) (v : Byte) : (s.setReg8 r v).cfg = s.cfg := rfl
@[simp] theorem State.setReg8_inputs (s : State) (r : Reg8) (v : Byte) : (s.setReg8 r v).inputs = s.inputs := rfl
@[simp] theorem State.setReg8_nmiCut (s : State) (r : Reg8) (v : Byte) : (s.setReg8 r v).nmiCut = s.nmiCut := rfl
@[simp] theorem State.setReg8_draws (s : State) (r : Reg8) (v : Byte) : (s.setReg8 r v).draws = s.draws := rfl
@[simp] theorem State.setReg8_trace (s : State) (r : Reg8) (v : Byte) : (s.setReg8 r v).trace = s.trace := rfl

/-! ## stepUp -/

@[simp] theorem State.stepUp_er (s : State) (n : RegNum) (k : Long) : (s.stepUp n k).er = s.er.set n (s.reg32 n + k) := rfl
@[simp] theorem State.stepUp_pc (s : State) (n : RegNum) (k : Long) : (s.stepUp n k).pc = s.pc := rfl
@[simp] theorem State.stepUp_ccr (s : State) (n : RegNum) (k : Long) : (s.stepUp n k).ccr = s.ccr := rfl
@[simp] theorem State.stepUp_pstate (s : State) (n : RegNum) (k : Long) : (s.stepUp n k).pstate = s.pstate := rfl
@[simp] theorem State.stepUp_irqInhibit (s : State) (n : RegNum) (k : Long) : (s.stepUp n k).irqInhibit = s.irqInhibit := rfl
@[simp] theorem State.stepUp_mem (s : State) (n : RegNum) (k : Long) : (s.stepUp n k).mem = s.mem := rfl
@[simp] theorem State.stepUp_cfg (s : State) (n : RegNum) (k : Long) : (s.stepUp n k).cfg = s.cfg := rfl
@[simp] theorem State.stepUp_inputs (s : State) (n : RegNum) (k : Long) : (s.stepUp n k).inputs = s.inputs := rfl
@[simp] theorem State.stepUp_nmiCut (s : State) (n : RegNum) (k : Long) : (s.stepUp n k).nmiCut = s.nmiCut := rfl
@[simp] theorem State.stepUp_draws (s : State) (n : RegNum) (k : Long) : (s.stepUp n k).draws = s.draws := rfl
@[simp] theorem State.stepUp_trace (s : State) (n : RegNum) (k : Long) : (s.stepUp n k).trace = s.trace := rfl

/-! ## stepDown -/

@[simp] theorem State.stepDown_er (s : State) (n : RegNum) (k : Long) : (s.stepDown n k).er = s.er.set n (s.reg32 n - k) := rfl
@[simp] theorem State.stepDown_pc (s : State) (n : RegNum) (k : Long) : (s.stepDown n k).pc = s.pc := rfl
@[simp] theorem State.stepDown_ccr (s : State) (n : RegNum) (k : Long) : (s.stepDown n k).ccr = s.ccr := rfl
@[simp] theorem State.stepDown_pstate (s : State) (n : RegNum) (k : Long) : (s.stepDown n k).pstate = s.pstate := rfl
@[simp] theorem State.stepDown_irqInhibit (s : State) (n : RegNum) (k : Long) : (s.stepDown n k).irqInhibit = s.irqInhibit := rfl
@[simp] theorem State.stepDown_mem (s : State) (n : RegNum) (k : Long) : (s.stepDown n k).mem = s.mem := rfl
@[simp] theorem State.stepDown_cfg (s : State) (n : RegNum) (k : Long) : (s.stepDown n k).cfg = s.cfg := rfl
@[simp] theorem State.stepDown_inputs (s : State) (n : RegNum) (k : Long) : (s.stepDown n k).inputs = s.inputs := rfl
@[simp] theorem State.stepDown_nmiCut (s : State) (n : RegNum) (k : Long) : (s.stepDown n k).nmiCut = s.nmiCut := rfl
@[simp] theorem State.stepDown_draws (s : State) (n : RegNum) (k : Long) : (s.stepDown n k).draws = s.draws := rfl
@[simp] theorem State.stepDown_trace (s : State) (n : RegNum) (k : Long) : (s.stepDown n k).trace = s.trace := rfl

/-! ## setCcr -/

@[simp] theorem State.setCcr_er (s : State) (c : Ccr) : (s.setCcr c).er = s.er := rfl
@[simp] theorem State.setCcr_pc (s : State) (c : Ccr) : (s.setCcr c).pc = s.pc := rfl
@[simp] theorem State.setCcr_ccr (s : State) (c : Ccr) : (s.setCcr c).ccr = c := rfl
@[simp] theorem State.setCcr_pstate (s : State) (c : Ccr) : (s.setCcr c).pstate = s.pstate := rfl
@[simp] theorem State.setCcr_irqInhibit (s : State) (c : Ccr) : (s.setCcr c).irqInhibit = s.irqInhibit := rfl
@[simp] theorem State.setCcr_mem (s : State) (c : Ccr) : (s.setCcr c).mem = s.mem := rfl
@[simp] theorem State.setCcr_cfg (s : State) (c : Ccr) : (s.setCcr c).cfg = s.cfg := rfl
@[simp] theorem State.setCcr_inputs (s : State) (c : Ccr) : (s.setCcr c).inputs = s.inputs := rfl
@[simp] theorem State.setCcr_nmiCut (s : State) (c : Ccr) : (s.setCcr c).nmiCut = s.nmiCut := rfl
@[simp] theorem State.setCcr_draws (s : State) (c : Ccr) : (s.setCcr c).draws = s.draws := rfl
@[simp] theorem State.setCcr_trace (s : State) (c : Ccr) : (s.setCcr c).trace = s.trace := rfl

/-! ## setPc -/

@[simp] theorem State.setPc_er (s : State) (a : Addr) : (s.setPc a).er = s.er := rfl
@[simp] theorem State.setPc_pc (s : State) (a : Addr) : (s.setPc a).pc = s.evenAddr a := rfl
@[simp] theorem State.setPc_ccr (s : State) (a : Addr) : (s.setPc a).ccr = s.ccr := rfl
@[simp] theorem State.setPc_pstate (s : State) (a : Addr) : (s.setPc a).pstate = s.pstate := rfl
@[simp] theorem State.setPc_irqInhibit (s : State) (a : Addr) : (s.setPc a).irqInhibit = s.irqInhibit := rfl
@[simp] theorem State.setPc_mem (s : State) (a : Addr) : (s.setPc a).mem = s.mem := rfl
@[simp] theorem State.setPc_cfg (s : State) (a : Addr) : (s.setPc a).cfg = s.cfg := rfl
@[simp] theorem State.setPc_inputs (s : State) (a : Addr) : (s.setPc a).inputs = s.inputs := rfl
@[simp] theorem State.setPc_nmiCut (s : State) (a : Addr) : (s.setPc a).nmiCut = s.nmiCut := rfl
@[simp] theorem State.setPc_draws (s : State) (a : Addr) : (s.setPc a).draws = s.draws := rfl
@[simp] theorem State.setPc_trace (s : State) (a : Addr) : (s.setPc a).trace = s.trace := rfl

/-! ## advance -/

@[simp] theorem State.advance_er (s : State) (k : Nat) : (s.advance k).er = s.er := rfl
@[simp] theorem State.advance_pc (s : State) (k : Nat) : (s.advance k).pc = s.nextPc k := rfl
@[simp] theorem State.advance_ccr (s : State) (k : Nat) : (s.advance k).ccr = s.ccr := rfl
@[simp] theorem State.advance_pstate (s : State) (k : Nat) : (s.advance k).pstate = s.pstate := rfl
@[simp] theorem State.advance_irqInhibit (s : State) (k : Nat) : (s.advance k).irqInhibit = s.irqInhibit := rfl
@[simp] theorem State.advance_mem (s : State) (k : Nat) : (s.advance k).mem = s.mem := rfl
@[simp] theorem State.advance_cfg (s : State) (k : Nat) : (s.advance k).cfg = s.cfg := rfl
@[simp] theorem State.advance_inputs (s : State) (k : Nat) : (s.advance k).inputs = s.inputs := rfl
@[simp] theorem State.advance_nmiCut (s : State) (k : Nat) : (s.advance k).nmiCut = s.nmiCut := rfl
@[simp] theorem State.advance_draws (s : State) (k : Nat) : (s.advance k).draws = s.draws := rfl
@[simp] theorem State.advance_trace (s : State) (k : Nat) : (s.advance k).trace = s.trace := rfl

/-! ## drew -/

@[simp] theorem State.drew_er (s : State) (k : Nat) : (s.drew k).er = s.er := rfl
@[simp] theorem State.drew_pc (s : State) (k : Nat) : (s.drew k).pc = s.pc := rfl
@[simp] theorem State.drew_ccr (s : State) (k : Nat) : (s.drew k).ccr = s.ccr := rfl
@[simp] theorem State.drew_pstate (s : State) (k : Nat) : (s.drew k).pstate = s.pstate := rfl
@[simp] theorem State.drew_irqInhibit (s : State) (k : Nat) : (s.drew k).irqInhibit = s.irqInhibit := rfl
@[simp] theorem State.drew_mem (s : State) (k : Nat) : (s.drew k).mem = s.mem := rfl
@[simp] theorem State.drew_cfg (s : State) (k : Nat) : (s.drew k).cfg = s.cfg := rfl
@[simp] theorem State.drew_inputs (s : State) (k : Nat) : (s.drew k).inputs = s.inputs := rfl
@[simp] theorem State.drew_nmiCut (s : State) (k : Nat) : (s.drew k).nmiCut = s.nmiCut := rfl
@[simp] theorem State.drew_draws (s : State) (k : Nat) : (s.drew k).draws = s.draws + k := rfl
@[simp] theorem State.drew_trace (s : State) (k : Nat) : (s.drew k).trace = s.trace := rfl

/-! ## noted -/

@[simp] theorem State.noted_er (s : State) (x : Access) : (s.noted x).er = s.er := rfl
@[simp] theorem State.noted_pc (s : State) (x : Access) : (s.noted x).pc = s.pc := rfl
@[simp] theorem State.noted_ccr (s : State) (x : Access) : (s.noted x).ccr = s.ccr := rfl
@[simp] theorem State.noted_pstate (s : State) (x : Access) : (s.noted x).pstate = s.pstate := rfl
@[simp] theorem State.noted_irqInhibit (s : State) (x : Access) : (s.noted x).irqInhibit = s.irqInhibit := rfl
@[simp] theorem State.noted_mem (s : State) (x : Access) : (s.noted x).mem = s.mem := rfl
@[simp] theorem State.noted_cfg (s : State) (x : Access) : (s.noted x).cfg = s.cfg := rfl
@[simp] theorem State.noted_inputs (s : State) (x : Access) : (s.noted x).inputs = s.inputs := rfl
@[simp] theorem State.noted_nmiCut (s : State) (x : Access) : (s.noted x).nmiCut = s.nmiCut := rfl
@[simp] theorem State.noted_draws (s : State) (x : Access) : (s.noted x).draws = s.draws := rfl
@[simp] theorem State.noted_trace (s : State) (x : Access) : (s.noted x).trace = x :: s.trace := rfl

/-! ## sawByte -/

@[simp] theorem State.sawByte_er (s : State) (a : Addr) : (s.sawByte a).er = s.er := rfl
@[simp] theorem State.sawByte_pc (s : State) (a : Addr) : (s.sawByte a).pc = s.pc := rfl
@[simp] theorem State.sawByte_ccr (s : State) (a : Addr) : (s.sawByte a).ccr = s.ccr := rfl
@[simp] theorem State.sawByte_pstate (s : State) (a : Addr) : (s.sawByte a).pstate = s.pstate := rfl
@[simp] theorem State.sawByte_irqInhibit (s : State) (a : Addr) : (s.sawByte a).irqInhibit = s.irqInhibit := rfl
@[simp] theorem State.sawByte_mem (s : State) (a : Addr) : (s.sawByte a).mem = s.mem := rfl
@[simp] theorem State.sawByte_cfg (s : State) (a : Addr) : (s.sawByte a).cfg = s.cfg := rfl
@[simp] theorem State.sawByte_inputs (s : State) (a : Addr) : (s.sawByte a).inputs = s.inputs := rfl
@[simp] theorem State.sawByte_nmiCut (s : State) (a : Addr) : (s.sawByte a).nmiCut = s.nmiCut := rfl
@[simp] theorem State.sawByte_draws (s : State) (a : Addr) : (s.sawByte a).draws = s.draws := rfl
@[simp] theorem State.sawByte_trace (s : State) (a : Addr) : (s.sawByte a).trace = .readByte (s.byteAddr a) :: s.trace := rfl

/-! ## sawWord -/

@[simp] theorem State.sawWord_er (s : State) (a : Addr) : (s.sawWord a).er = s.er := rfl
@[simp] theorem State.sawWord_pc (s : State) (a : Addr) : (s.sawWord a).pc = s.pc := rfl
@[simp] theorem State.sawWord_ccr (s : State) (a : Addr) : (s.sawWord a).ccr = s.ccr := rfl
@[simp] theorem State.sawWord_pstate (s : State) (a : Addr) : (s.sawWord a).pstate = s.pstate := rfl
@[simp] theorem State.sawWord_irqInhibit (s : State) (a : Addr) : (s.sawWord a).irqInhibit = s.irqInhibit := rfl
@[simp] theorem State.sawWord_mem (s : State) (a : Addr) : (s.sawWord a).mem = s.mem := rfl
@[simp] theorem State.sawWord_cfg (s : State) (a : Addr) : (s.sawWord a).cfg = s.cfg := rfl
@[simp] theorem State.sawWord_inputs (s : State) (a : Addr) : (s.sawWord a).inputs = s.inputs := rfl
@[simp] theorem State.sawWord_nmiCut (s : State) (a : Addr) : (s.sawWord a).nmiCut = s.nmiCut := rfl
@[simp] theorem State.sawWord_draws (s : State) (a : Addr) : (s.sawWord a).draws = s.draws := rfl
@[simp] theorem State.sawWord_trace (s : State) (a : Addr) : (s.sawWord a).trace = .readWord (s.evenAddr a) :: s.trace := rfl

/-! ## sawLong -/

@[simp] theorem State.sawLong_er (s : State) (a : Addr) : (s.sawLong a).er = s.er := rfl
@[simp] theorem State.sawLong_pc (s : State) (a : Addr) : (s.sawLong a).pc = s.pc := rfl
@[simp] theorem State.sawLong_ccr (s : State) (a : Addr) : (s.sawLong a).ccr = s.ccr := rfl
@[simp] theorem State.sawLong_pstate (s : State) (a : Addr) : (s.sawLong a).pstate = s.pstate := rfl
@[simp] theorem State.sawLong_irqInhibit (s : State) (a : Addr) : (s.sawLong a).irqInhibit = s.irqInhibit := rfl
@[simp] theorem State.sawLong_mem (s : State) (a : Addr) : (s.sawLong a).mem = s.mem := rfl
@[simp] theorem State.sawLong_cfg (s : State) (a : Addr) : (s.sawLong a).cfg = s.cfg := rfl
@[simp] theorem State.sawLong_inputs (s : State) (a : Addr) : (s.sawLong a).inputs = s.inputs := rfl
@[simp] theorem State.sawLong_nmiCut (s : State) (a : Addr) : (s.sawLong a).nmiCut = s.nmiCut := rfl
@[simp] theorem State.sawLong_draws (s : State) (a : Addr) : (s.sawLong a).draws = s.draws := rfl
@[simp] theorem State.sawLong_trace (s : State) (a : Addr) : (s.sawLong a).trace = .readWord (s.evenAddr (a + 2#24)) :: .readWord (s.evenAddr a) :: s.trace := rfl

/-! ## sawEnds -/

@[simp] theorem State.sawEnds_er (s : State) : (s.sawEnds).er = s.er := rfl
@[simp] theorem State.sawEnds_pc (s : State) : (s.sawEnds).pc = s.pc := rfl
@[simp] theorem State.sawEnds_ccr (s : State) : (s.sawEnds).ccr = s.ccr := rfl
@[simp] theorem State.sawEnds_pstate (s : State) : (s.sawEnds).pstate = s.pstate := rfl
@[simp] theorem State.sawEnds_irqInhibit (s : State) : (s.sawEnds).irqInhibit = s.irqInhibit := rfl
@[simp] theorem State.sawEnds_mem (s : State) : (s.sawEnds).mem = s.mem := rfl
@[simp] theorem State.sawEnds_cfg (s : State) : (s.sawEnds).cfg = s.cfg := rfl
@[simp] theorem State.sawEnds_inputs (s : State) : (s.sawEnds).inputs = s.inputs := rfl
@[simp] theorem State.sawEnds_nmiCut (s : State) : (s.sawEnds).nmiCut = s.nmiCut := rfl
@[simp] theorem State.sawEnds_draws (s : State) : (s.sawEnds).draws = s.draws := rfl
@[simp] theorem State.sawEnds_trace (s : State) : (s.sawEnds).trace = .readByte (s.byteAddr (s.eaInd .r6)) :: .readByte (s.byteAddr (s.eaInd .r5)) :: s.trace := rfl

/-! ## setI -/

@[simp] theorem State.setI_er (s : State) : (s.setI).er = s.er := rfl
@[simp] theorem State.setI_pc (s : State) : (s.setI).pc = s.pc := rfl
@[simp] theorem State.setI_ccr (s : State) : (s.setI).ccr = { s.ccr with i := true } := rfl
@[simp] theorem State.setI_pstate (s : State) : (s.setI).pstate = s.pstate := rfl
@[simp] theorem State.setI_irqInhibit (s : State) : (s.setI).irqInhibit = s.irqInhibit := rfl
@[simp] theorem State.setI_mem (s : State) : (s.setI).mem = s.mem := rfl
@[simp] theorem State.setI_cfg (s : State) : (s.setI).cfg = s.cfg := rfl
@[simp] theorem State.setI_inputs (s : State) : (s.setI).inputs = s.inputs := rfl
@[simp] theorem State.setI_nmiCut (s : State) : (s.setI).nmiCut = s.nmiCut := rfl
@[simp] theorem State.setI_draws (s : State) : (s.setI).draws = s.draws := rfl
@[simp] theorem State.setI_trace (s : State) : (s.setI).trace = s.trace := rfl

/-! ## loseRegisters -/

@[simp] theorem State.loseRegisters_pc (s : State) : (s.loseRegisters).pc = s.pc := rfl
@[simp] theorem State.loseRegisters_pstate (s : State) : (s.loseRegisters).pstate = s.pstate := rfl
@[simp] theorem State.loseRegisters_irqInhibit (s : State) : (s.loseRegisters).irqInhibit = s.irqInhibit := rfl
@[simp] theorem State.loseRegisters_mem (s : State) : (s.loseRegisters).mem = s.mem := rfl
@[simp] theorem State.loseRegisters_cfg (s : State) : (s.loseRegisters).cfg = s.cfg := rfl
@[simp] theorem State.loseRegisters_inputs (s : State) : (s.loseRegisters).inputs = s.inputs := rfl
@[simp] theorem State.loseRegisters_nmiCut (s : State) : (s.loseRegisters).nmiCut = s.nmiCut := rfl
@[simp] theorem State.loseRegisters_draws (s : State) : (s.loseRegisters).draws = s.draws + 16 := rfl
@[simp] theorem State.loseRegisters_trace (s : State) : (s.loseRegisters).trace = s.trace := rfl

/-! ## placeCode -/

@[simp] theorem State.placeCode_er (s : State) (bs : List Byte) : (s.placeCode bs).er = s.er := rfl
@[simp] theorem State.placeCode_pc (s : State) (bs : List Byte) : (s.placeCode bs).pc = s.pc := rfl
@[simp] theorem State.placeCode_ccr (s : State) (bs : List Byte) : (s.placeCode bs).ccr = s.ccr := rfl
@[simp] theorem State.placeCode_pstate (s : State) (bs : List Byte) : (s.placeCode bs).pstate = .programExecution := rfl
@[simp] theorem State.placeCode_irqInhibit (s : State) (bs : List Byte) : (s.placeCode bs).irqInhibit = s.irqInhibit := rfl
@[simp] theorem State.placeCode_mem (s : State) (bs : List Byte) : (s.placeCode bs).mem = s.place 0 bs s.mem := rfl
@[simp] theorem State.placeCode_inputs (s : State) (bs : List Byte) : (s.placeCode bs).inputs = [] := rfl
@[simp] theorem State.placeCode_nmiCut (s : State) (bs : List Byte) : (s.placeCode bs).nmiCut = s.nmiCut := rfl
@[simp] theorem State.placeCode_draws (s : State) (bs : List Byte) : (s.placeCode bs).draws = s.draws := rfl
@[simp] theorem State.placeCode_trace (s : State) (bs : List Byte) : (s.placeCode bs).trace = s.trace := rfl

/-! ## poke, pokeFree: memory alone (and the count of draws) -/

@[simp] theorem State.poke_er (s : State) (a : Addr) (b : Byte) : (s.poke a b).er = s.er := by
  unfold State.poke; split <;> rfl
@[simp] theorem State.poke_pc (s : State) (a : Addr) (b : Byte) : (s.poke a b).pc = s.pc := by
  unfold State.poke; split <;> rfl
@[simp] theorem State.poke_ccr (s : State) (a : Addr) (b : Byte) : (s.poke a b).ccr = s.ccr := by
  unfold State.poke; split <;> rfl
@[simp] theorem State.poke_pstate (s : State) (a : Addr) (b : Byte) : (s.poke a b).pstate = s.pstate := by
  unfold State.poke; split <;> rfl
@[simp] theorem State.poke_irqInhibit (s : State) (a : Addr) (b : Byte) : (s.poke a b).irqInhibit = s.irqInhibit := by
  unfold State.poke; split <;> rfl
@[simp] theorem State.poke_cfg (s : State) (a : Addr) (b : Byte) : (s.poke a b).cfg = s.cfg := by
  unfold State.poke; split <;> rfl
@[simp] theorem State.poke_inputs (s : State) (a : Addr) (b : Byte) : (s.poke a b).inputs = s.inputs := by
  unfold State.poke; split <;> rfl
@[simp] theorem State.poke_nmiCut (s : State) (a : Addr) (b : Byte) : (s.poke a b).nmiCut = s.nmiCut := by
  unfold State.poke; split <;> rfl
@[simp] theorem State.poke_draws (s : State) (a : Addr) (b : Byte) : (s.poke a b).draws = s.draws := by
  unfold State.poke; split <;> rfl
@[simp] theorem State.poke_trace (s : State) (a : Addr) (b : Byte) : (s.poke a b).trace = s.trace := by
  unfold State.poke; split <;> rfl

@[simp] theorem State.pokeFree_er (s : State) (a : Addr) : (s.pokeFree a).er = s.er := by
  unfold State.pokeFree; dsimp only; split <;> rfl
@[simp] theorem State.pokeFree_pc (s : State) (a : Addr) : (s.pokeFree a).pc = s.pc := by
  unfold State.pokeFree; dsimp only; split <;> rfl
@[simp] theorem State.pokeFree_ccr (s : State) (a : Addr) : (s.pokeFree a).ccr = s.ccr := by
  unfold State.pokeFree; dsimp only; split <;> rfl
@[simp] theorem State.pokeFree_pstate (s : State) (a : Addr) : (s.pokeFree a).pstate = s.pstate := by
  unfold State.pokeFree; dsimp only; split <;> rfl
@[simp] theorem State.pokeFree_irqInhibit (s : State) (a : Addr) : (s.pokeFree a).irqInhibit = s.irqInhibit := by
  unfold State.pokeFree; dsimp only; split <;> rfl
@[simp] theorem State.pokeFree_cfg (s : State) (a : Addr) : (s.pokeFree a).cfg = s.cfg := by
  unfold State.pokeFree; dsimp only; split <;> rfl
@[simp] theorem State.pokeFree_inputs (s : State) (a : Addr) : (s.pokeFree a).inputs = s.inputs := by
  unfold State.pokeFree; dsimp only; split <;> rfl
@[simp] theorem State.pokeFree_nmiCut (s : State) (a : Addr) : (s.pokeFree a).nmiCut = s.nmiCut := by
  unfold State.pokeFree; dsimp only; split <;> rfl
@[simp] theorem State.pokeFree_draws (s : State) (a : Addr) : (s.pokeFree a).draws = s.draws + 1 := by
  unfold State.pokeFree; dsimp only; split <;> rfl
@[simp] theorem State.pokeFree_trace (s : State) (a : Addr) : (s.pokeFree a).trace = s.trace := by
  unfold State.pokeFree; dsimp only; split <;> rfl

/-! ## writeByte -/

@[simp] theorem State.writeByte_er (s : State) (a : Addr) (v : Byte) : (s.writeByte a v).er = s.er := by
  simp [State.writeByte]
@[simp] theorem State.writeByte_pc (s : State) (a : Addr) (v : Byte) : (s.writeByte a v).pc = s.pc := by
  simp [State.writeByte]
@[simp] theorem State.writeByte_ccr (s : State) (a : Addr) (v : Byte) : (s.writeByte a v).ccr = s.ccr := by
  simp [State.writeByte]
@[simp] theorem State.writeByte_pstate (s : State) (a : Addr) (v : Byte) : (s.writeByte a v).pstate = s.pstate := by
  simp [State.writeByte]
@[simp] theorem State.writeByte_irqInhibit (s : State) (a : Addr) (v : Byte) : (s.writeByte a v).irqInhibit = s.irqInhibit := by
  simp [State.writeByte]
@[simp] theorem State.writeByte_cfg (s : State) (a : Addr) (v : Byte) : (s.writeByte a v).cfg = s.cfg := by
  simp [State.writeByte]
@[simp] theorem State.writeByte_inputs (s : State) (a : Addr) (v : Byte) : (s.writeByte a v).inputs = s.inputs := by
  simp [State.writeByte]
@[simp] theorem State.writeByte_nmiCut (s : State) (a : Addr) (v : Byte) : (s.writeByte a v).nmiCut = s.nmiCut := by
  simp [State.writeByte]
@[simp] theorem State.writeByte_draws (s : State) (a : Addr) (v : Byte) : (s.writeByte a v).draws = s.draws := by
  simp [State.writeByte]
@[simp] theorem State.writeByte_trace (s : State) (a : Addr) (v : Byte) : (s.writeByte a v).trace = .writeByte (s.byteAddr a) v :: s.trace := by
  simp [State.writeByte]

/-! ## writeWord -/

@[simp] theorem State.writeWord_er (s : State) (a : Addr) (v : Word) : (s.writeWord a v).er = s.er := by
  simp [State.writeWord]
@[simp] theorem State.writeWord_pc (s : State) (a : Addr) (v : Word) : (s.writeWord a v).pc = s.pc := by
  simp [State.writeWord]
@[simp] theorem State.writeWord_ccr (s : State) (a : Addr) (v : Word) : (s.writeWord a v).ccr = s.ccr := by
  simp [State.writeWord]
@[simp] theorem State.writeWord_pstate (s : State) (a : Addr) (v : Word) : (s.writeWord a v).pstate = s.pstate := by
  simp [State.writeWord]
@[simp] theorem State.writeWord_irqInhibit (s : State) (a : Addr) (v : Word) : (s.writeWord a v).irqInhibit = s.irqInhibit := by
  simp [State.writeWord]
@[simp] theorem State.writeWord_cfg (s : State) (a : Addr) (v : Word) : (s.writeWord a v).cfg = s.cfg := by
  simp [State.writeWord]
@[simp] theorem State.writeWord_inputs (s : State) (a : Addr) (v : Word) : (s.writeWord a v).inputs = s.inputs := by
  simp [State.writeWord]
@[simp] theorem State.writeWord_nmiCut (s : State) (a : Addr) (v : Word) : (s.writeWord a v).nmiCut = s.nmiCut := by
  simp [State.writeWord]
@[simp] theorem State.writeWord_draws (s : State) (a : Addr) (v : Word) : (s.writeWord a v).draws = s.draws := by
  simp [State.writeWord]
@[simp] theorem State.writeWord_trace (s : State) (a : Addr) (v : Word) : (s.writeWord a v).trace = .writeWord (s.evenAddr a) v :: s.trace := by
  simp [State.writeWord]

/-! ## writeLong -/

@[simp] theorem State.writeLong_er (s : State) (a : Addr) (v : Long) : (s.writeLong a v).er = s.er := by
  simp [State.writeLong]
@[simp] theorem State.writeLong_pc (s : State) (a : Addr) (v : Long) : (s.writeLong a v).pc = s.pc := by
  simp [State.writeLong]
@[simp] theorem State.writeLong_ccr (s : State) (a : Addr) (v : Long) : (s.writeLong a v).ccr = s.ccr := by
  simp [State.writeLong]
@[simp] theorem State.writeLong_pstate (s : State) (a : Addr) (v : Long) : (s.writeLong a v).pstate = s.pstate := by
  simp [State.writeLong]
@[simp] theorem State.writeLong_irqInhibit (s : State) (a : Addr) (v : Long) : (s.writeLong a v).irqInhibit = s.irqInhibit := by
  simp [State.writeLong]
@[simp] theorem State.writeLong_cfg (s : State) (a : Addr) (v : Long) : (s.writeLong a v).cfg = s.cfg := by
  simp [State.writeLong]
@[simp] theorem State.writeLong_inputs (s : State) (a : Addr) (v : Long) : (s.writeLong a v).inputs = s.inputs := by
  simp [State.writeLong]
@[simp] theorem State.writeLong_nmiCut (s : State) (a : Addr) (v : Long) : (s.writeLong a v).nmiCut = s.nmiCut := by
  simp [State.writeLong]
@[simp] theorem State.writeLong_draws (s : State) (a : Addr) (v : Long) : (s.writeLong a v).draws = s.draws := by
  simp [State.writeLong]
@[simp] theorem State.writeLong_trace (s : State) (a : Addr) (v : Long) : (s.writeLong a v).trace = .writeWord (s.evenAddr (a + 2#24)) (v.extractLsb' 0 16) :: .writeWord (s.evenAddr a) (v.extractLsb' 16 16) :: s.trace := by
  simp [State.writeLong, State.evenAddr, State.amask]

/-! ## writeLongLowFirst -/

@[simp] theorem State.writeLongLowFirst_er (s : State) (a : Addr) (v : Long) : (s.writeLongLowFirst a v).er = s.er := by
  simp [State.writeLongLowFirst]
@[simp] theorem State.writeLongLowFirst_pc (s : State) (a : Addr) (v : Long) : (s.writeLongLowFirst a v).pc = s.pc := by
  simp [State.writeLongLowFirst]
@[simp] theorem State.writeLongLowFirst_ccr (s : State) (a : Addr) (v : Long) : (s.writeLongLowFirst a v).ccr = s.ccr := by
  simp [State.writeLongLowFirst]
@[simp] theorem State.writeLongLowFirst_pstate (s : State) (a : Addr) (v : Long) : (s.writeLongLowFirst a v).pstate = s.pstate := by
  simp [State.writeLongLowFirst]
@[simp] theorem State.writeLongLowFirst_irqInhibit (s : State) (a : Addr) (v : Long) : (s.writeLongLowFirst a v).irqInhibit = s.irqInhibit := by
  simp [State.writeLongLowFirst]
@[simp] theorem State.writeLongLowFirst_cfg (s : State) (a : Addr) (v : Long) : (s.writeLongLowFirst a v).cfg = s.cfg := by
  simp [State.writeLongLowFirst]
@[simp] theorem State.writeLongLowFirst_inputs (s : State) (a : Addr) (v : Long) : (s.writeLongLowFirst a v).inputs = s.inputs := by
  simp [State.writeLongLowFirst]
@[simp] theorem State.writeLongLowFirst_nmiCut (s : State) (a : Addr) (v : Long) : (s.writeLongLowFirst a v).nmiCut = s.nmiCut := by
  simp [State.writeLongLowFirst]
@[simp] theorem State.writeLongLowFirst_draws (s : State) (a : Addr) (v : Long) : (s.writeLongLowFirst a v).draws = s.draws := by
  simp [State.writeLongLowFirst]
@[simp] theorem State.writeLongLowFirst_trace (s : State) (a : Addr) (v : Long) : (s.writeLongLowFirst a v).trace = .writeWord (s.evenAddr a) (v.extractLsb' 16 16) :: .writeWord (s.evenAddr (a + 2#24)) (v.extractLsb' 0 16) :: s.trace := by
  simp [State.writeLongLowFirst, State.evenAddr, State.amask]

/-! ## writeEven -/

@[simp] theorem State.writeEven_er (s : State) (a : Addr) (v : Byte) : (s.writeEven a v).er = s.er := by
  simp [State.writeEven]
@[simp] theorem State.writeEven_pc (s : State) (a : Addr) (v : Byte) : (s.writeEven a v).pc = s.pc := by
  simp [State.writeEven]
@[simp] theorem State.writeEven_ccr (s : State) (a : Addr) (v : Byte) : (s.writeEven a v).ccr = s.ccr := by
  simp [State.writeEven]
@[simp] theorem State.writeEven_pstate (s : State) (a : Addr) (v : Byte) : (s.writeEven a v).pstate = s.pstate := by
  simp [State.writeEven]
@[simp] theorem State.writeEven_irqInhibit (s : State) (a : Addr) (v : Byte) : (s.writeEven a v).irqInhibit = s.irqInhibit := by
  simp [State.writeEven]
@[simp] theorem State.writeEven_cfg (s : State) (a : Addr) (v : Byte) : (s.writeEven a v).cfg = s.cfg := by
  simp [State.writeEven]
@[simp] theorem State.writeEven_inputs (s : State) (a : Addr) (v : Byte) : (s.writeEven a v).inputs = s.inputs := by
  simp [State.writeEven]
@[simp] theorem State.writeEven_nmiCut (s : State) (a : Addr) (v : Byte) : (s.writeEven a v).nmiCut = s.nmiCut := by
  simp [State.writeEven]
@[simp] theorem State.writeEven_draws (s : State) (a : Addr) (v : Byte) : (s.writeEven a v).draws = s.draws + 1 := by
  simp [State.writeEven]
@[simp] theorem State.writeEven_trace (s : State) (a : Addr) (v : Byte) : (s.writeEven a v).trace = .writeWord (s.evenAddr a) (v ++ Config.freeByte s.draws) :: s.trace := by
  simp [State.writeEven]

/-! ## writeOdd -/

@[simp] theorem State.writeOdd_er (s : State) (a : Addr) (v : Byte) : (s.writeOdd a v).er = s.er := by
  simp [State.writeOdd]
@[simp] theorem State.writeOdd_pc (s : State) (a : Addr) (v : Byte) : (s.writeOdd a v).pc = s.pc := by
  simp [State.writeOdd]
@[simp] theorem State.writeOdd_ccr (s : State) (a : Addr) (v : Byte) : (s.writeOdd a v).ccr = s.ccr := by
  simp [State.writeOdd]
@[simp] theorem State.writeOdd_pstate (s : State) (a : Addr) (v : Byte) : (s.writeOdd a v).pstate = s.pstate := by
  simp [State.writeOdd]
@[simp] theorem State.writeOdd_irqInhibit (s : State) (a : Addr) (v : Byte) : (s.writeOdd a v).irqInhibit = s.irqInhibit := by
  simp [State.writeOdd]
@[simp] theorem State.writeOdd_cfg (s : State) (a : Addr) (v : Byte) : (s.writeOdd a v).cfg = s.cfg := by
  simp [State.writeOdd]
@[simp] theorem State.writeOdd_inputs (s : State) (a : Addr) (v : Byte) : (s.writeOdd a v).inputs = s.inputs := by
  simp [State.writeOdd]
@[simp] theorem State.writeOdd_nmiCut (s : State) (a : Addr) (v : Byte) : (s.writeOdd a v).nmiCut = s.nmiCut := by
  simp [State.writeOdd]
@[simp] theorem State.writeOdd_draws (s : State) (a : Addr) (v : Byte) : (s.writeOdd a v).draws = s.draws + 1 := by
  simp [State.writeOdd]
@[simp] theorem State.writeOdd_trace (s : State) (a : Addr) (v : Byte) : (s.writeOdd a v).trace = .writeWord (s.evenAddr a) (Config.freeByte s.draws ++ v) :: s.trace := by
  simp [State.writeOdd]

@[simp] theorem State.writeFrame_er (s : State) (a r : Addr) : (s.writeFrame a r).er = s.er := by
  unfold State.writeFrame; dsimp only; split <;> simp
@[simp] theorem State.writeFrame_pc (s : State) (a r : Addr) : (s.writeFrame a r).pc = s.pc := by
  unfold State.writeFrame; dsimp only; split <;> simp
@[simp] theorem State.writeFrame_ccr (s : State) (a r : Addr) : (s.writeFrame a r).ccr = s.ccr := by
  unfold State.writeFrame; dsimp only; split <;> simp
@[simp] theorem State.writeFrame_pstate (s : State) (a r : Addr) : (s.writeFrame a r).pstate = s.pstate := by
  unfold State.writeFrame; dsimp only; split <;> simp
@[simp] theorem State.writeFrame_irqInhibit (s : State) (a r : Addr) : (s.writeFrame a r).irqInhibit = s.irqInhibit := by
  unfold State.writeFrame; dsimp only; split <;> simp
@[simp] theorem State.writeFrame_cfg (s : State) (a r : Addr) : (s.writeFrame a r).cfg = s.cfg := by
  unfold State.writeFrame; dsimp only; split <;> simp
@[simp] theorem State.writeFrame_inputs (s : State) (a r : Addr) : (s.writeFrame a r).inputs = s.inputs := by
  unfold State.writeFrame; dsimp only; split <;> simp
@[simp] theorem State.writeFrame_nmiCut (s : State) (a r : Addr) : (s.writeFrame a r).nmiCut = s.nmiCut := by
  unfold State.writeFrame; dsimp only; split <;> simp

/-! ## sawEntry -/

@[simp] theorem State.sawEntry_er (s : State) (p : Addr) : (s.sawEntry p).er = s.er := by
  unfold State.sawEntry; split <;> rfl
@[simp] theorem State.sawMemInd_er (s : State) (aa : BitVec 8) : (s.sawMemInd aa).er = s.er := by
  simp [State.sawMemInd]
@[simp] theorem State.sawEntry_pc (s : State) (p : Addr) : (s.sawEntry p).pc = s.pc := by
  unfold State.sawEntry; split <;> rfl
@[simp] theorem State.sawMemInd_pc (s : State) (aa : BitVec 8) : (s.sawMemInd aa).pc = s.pc := by
  simp [State.sawMemInd]
@[simp] theorem State.sawEntry_ccr (s : State) (p : Addr) : (s.sawEntry p).ccr = s.ccr := by
  unfold State.sawEntry; split <;> rfl
@[simp] theorem State.sawMemInd_ccr (s : State) (aa : BitVec 8) : (s.sawMemInd aa).ccr = s.ccr := by
  simp [State.sawMemInd]
@[simp] theorem State.sawEntry_pstate (s : State) (p : Addr) : (s.sawEntry p).pstate = s.pstate := by
  unfold State.sawEntry; split <;> rfl
@[simp] theorem State.sawMemInd_pstate (s : State) (aa : BitVec 8) : (s.sawMemInd aa).pstate = s.pstate := by
  simp [State.sawMemInd]
@[simp] theorem State.sawEntry_irqInhibit (s : State) (p : Addr) : (s.sawEntry p).irqInhibit = s.irqInhibit := by
  unfold State.sawEntry; split <;> rfl
@[simp] theorem State.sawMemInd_irqInhibit (s : State) (aa : BitVec 8) : (s.sawMemInd aa).irqInhibit = s.irqInhibit := by
  simp [State.sawMemInd]
@[simp] theorem State.sawEntry_mem (s : State) (p : Addr) : (s.sawEntry p).mem = s.mem := by
  unfold State.sawEntry; split <;> rfl
@[simp] theorem State.sawMemInd_mem (s : State) (aa : BitVec 8) : (s.sawMemInd aa).mem = s.mem := by
  simp [State.sawMemInd]
@[simp] theorem State.sawEntry_cfg (s : State) (p : Addr) : (s.sawEntry p).cfg = s.cfg := by
  unfold State.sawEntry; split <;> rfl
@[simp] theorem State.sawMemInd_cfg (s : State) (aa : BitVec 8) : (s.sawMemInd aa).cfg = s.cfg := by
  simp [State.sawMemInd]
@[simp] theorem State.sawEntry_inputs (s : State) (p : Addr) : (s.sawEntry p).inputs = s.inputs := by
  unfold State.sawEntry; split <;> rfl
@[simp] theorem State.sawMemInd_inputs (s : State) (aa : BitVec 8) : (s.sawMemInd aa).inputs = s.inputs := by
  simp [State.sawMemInd]
@[simp] theorem State.sawEntry_nmiCut (s : State) (p : Addr) : (s.sawEntry p).nmiCut = s.nmiCut := by
  unfold State.sawEntry; split <;> rfl
@[simp] theorem State.sawMemInd_nmiCut (s : State) (aa : BitVec 8) : (s.sawMemInd aa).nmiCut = s.nmiCut := by
  simp [State.sawMemInd]
@[simp] theorem State.sawEntry_draws (s : State) (p : Addr) : (s.sawEntry p).draws = s.draws := by
  unfold State.sawEntry; split <;> rfl
@[simp] theorem State.sawMemInd_draws (s : State) (aa : BitVec 8) : (s.sawMemInd aa).draws = s.draws := by
  simp [State.sawMemInd]

end Sys2Proof.Machine
end

