-- ==== Sys2Proof/Laws/Ops.lean ====
section
/-! SUPPORT. What each shared operation can do, said once: register views, addresses, memory as `peek` sees it, the
guards, and the shapes of the instructions. -/

namespace Sys2Proof.Machine

/-! ## Registers -/

@[simp] theorem Regs.get_set (r : Regs) (n m : RegNum) (v : Long) :
    (r.set n v).get m = if m = n then v else r.get m := by
  cases n <;> cases m <;> rfl

theorem Regs.ext_get {r q : Regs} (h : ∀ n, r.get n = q.get n) : r = q := by
  have h0 := h .r0; have h1 := h .r1; have h2 := h .r2; have h3 := h .r3
  have h4 := h .r4; have h5 := h .r5; have h6 := h .r6; have h7 := h .r7
  cases r; cases q
  simp only [Regs.get] at h0 h1 h2 h3 h4 h5 h6 h7
  simp [h0, h1, h2, h3, h4, h5, h6, h7]

/-- The registers are read through one field. -/
theorem State.reg32_congr {s t : State} (h : t.er = s.er) (n : RegNum) : t.reg32 n = s.reg32 n := by
  simp [State.reg32, h]

@[simp] theorem State.reg32_setReg32 (s : State) (n m : RegNum) (v : Long) :
    (s.setReg32 n v).reg32 m = if m = n then v else s.reg32 m := by
  simp [State.reg32]

@[simp] theorem byteView_setByteView (x : Long) (l m : Bool) (b : Byte) :
    byteView (setByteView x l b) m = if m = l then b else byteView x m := by
  cases l <;> cases m <;> ext i hi <;> simp [byteView, setByteView] <;> grind

@[simp] theorem wordView_setWordView (x : Long) (l m : Bool) (w : Word) :
    wordView (setWordView x l w) m = if m = l then w else wordView x m := by
  cases l <;> cases m <;> ext i hi <;> simp [wordView, setWordView] <;> grind

@[simp] theorem wordView_setByteView (x : Long) (l : Bool) (b : Byte) :
    wordView (setByteView x l b) true = wordView x true := by
  cases l <;> ext i hi <;> simp [wordView, setByteView] <;> grind

@[simp] theorem State.reg8_setReg8 (s : State) (r q : Reg8) (b : Byte) :
    (s.setReg8 r b).reg8 q = if q = r then b else s.reg8 q := by
  obtain ⟨l, n⟩ := r
  obtain ⟨m, k⟩ := q
  simp only [State.reg8, State.setReg8, State.reg32_setReg32, Reg8.mk.injEq]
  by_cases h : k = n
  · subst h; simp
  · simp [h]

@[simp] theorem State.reg16_setReg16 (s : State) (r q : Reg16) (w : Word) :
    (s.setReg16 r w).reg16 q = if q = r then w else s.reg16 q := by
  obtain ⟨l, n⟩ := r
  obtain ⟨m, k⟩ := q
  simp only [State.reg16, State.setReg16, State.reg32_setReg32, Reg16.mk.injEq]
  by_cases h : k = n
  · subst h; simp
  · simp [h]

/-- A byte write leaves every extended register En (R21). -/
@[simp] theorem State.reg16_ext_setReg8 (s : State) (r : Reg8) (b : Byte) (n : RegNum) :
    (s.setReg8 r b).reg16 { ext := true, n := n } = s.reg16 { ext := true, n := n } := by
  simp only [State.reg16, State.setReg8, State.reg32_setReg32]
  by_cases h : n = r.n
  · subst h; simp
  · simp [h]

/-! ## The CCR as a byte -/

@[simp] theorem Ccr.ofByte_toByte (c : Ccr) : Ccr.ofByte c.toByte = c := by
  obtain ⟨i, ui, h, u, n, z, v, c⟩ := c
  cases i <;> cases ui <;> cases h <;> cases u <;> cases n <;> cases z <;> cases v <;> cases c <;> rfl

@[simp] theorem Ccr.toByte_ofByte (b : Byte) : (Ccr.ofByte b).toByte = b := by
  have split : ∀ x : Byte, x = BitVec.ofBool (x.getLsbD 7) ++ BitVec.ofBool (x.getLsbD 6) ++
      BitVec.ofBool (x.getLsbD 5) ++ BitVec.ofBool (x.getLsbD 4) ++ BitVec.ofBool (x.getLsbD 3) ++
      BitVec.ofBool (x.getLsbD 2) ++ BitVec.ofBool (x.getLsbD 1) ++ BitVec.ofBool (x.getLsbD 0) := by
    intro x
    refine BitVec.eq_of_getLsbD_eq fun i hi => ?_
    simp only [BitVec.getLsbD_append, BitVec.getLsbD_ofBool]
    interval_cases i <;> simp
  exact (split b).symm

/-! ## Addresses -/

theorem State.evenAddr_congr {s t : State} (h : t.cfg = s.cfg) (a : Addr) : t.evenAddr a = s.evenAddr a := by
  simp [State.evenAddr, State.amask, h]

theorem State.byteAddr_congr {s t : State} (h : t.cfg = s.cfg) (a : Addr) : t.byteAddr a = s.byteAddr a := by
  simp [State.byteAddr, State.amask, h]

theorem State.nextPc_congr {s t : State} (h : t.cfg = s.cfg) (hp : t.pc = s.pc) (k : Nat) :
    t.nextPc k = s.nextPc k := by
  simp [State.nextPc, State.evenAddr_congr h, hp]

@[simp] theorem State.evenAddr_evenAddr (s : State) (a : Addr) : s.evenAddr (s.evenAddr a) = s.evenAddr a := by
  simp only [State.evenAddr]
  ext i hi
  simp only [BitVec.getElem_and]
  cases a[i] <;> cases s.amask[i] <;> cases (0xFFFFFE#24)[i] <;> rfl

/-! ## Memory as `peek` sees it -/

theorem State.regionAt_congr {s t : State} (h : t.cfg = s.cfg) (a : Nat) : t.regionAt a = s.regionAt a := by
  simp [State.regionAt, h]

theorem State.writable_congr {s t : State} (h : t.cfg = s.cfg) (a : Addr) : t.writable a = s.writable a := by
  simp [State.writable, State.regionAt_congr h]

/-- What `peek` gives depends on the memory, the memory map and the accesses made alone. -/
theorem State.peek_congr {s t : State} (hm : t.mem = s.mem) (hc : t.cfg = s.cfg) (ht : t.trace = s.trace) (a : Addr) :
    t.peek a = s.peek a := by
  simp [State.peek, State.regionAt_congr hc, hm, ht]

theorem State.readWord_congr {s t : State} (hm : t.mem = s.mem) (hc : t.cfg = s.cfg) (ht : t.trace = s.trace)
    (a : Addr) : t.readWord a = s.readWord a := by
  simp [State.readWord, State.peek_congr hm hc ht, State.evenAddr_congr hc]

theorem State.steady_congr {s t : State} (h : t.cfg = s.cfg) (a : Addr) : t.steady a = s.steady a := by
  simp [State.steady, State.regionAt_congr h]

/-- RAM is steady. -/
theorem State.steady_of_writable {s : State} {a : Addr} (h : s.writable a = true) : s.steady a = true := by
  unfold State.writable at h
  unfold State.steady
  cases hr : s.regionAt a.toNat with
  | none => rfl
  | some k => simp [hr] at h

/-- A steady address reads as the memory and the memory map say, whatever accesses were made. -/
theorem State.peek_of_steady {s t : State} (hc : t.cfg = s.cfg) {a : Addr} (hs : s.steady a = true)
    (hm : t.mem.read a.toNat = s.mem.read a.toNat) : t.peek a = s.peek a := by
  unfold State.steady at hs
  unfold State.peek
  rw [State.regionAt_congr hc]
  rcases hr : s.regionAt a.toNat with _ | _ | (_ | _) | _ <;> simp_all

theorem State.peek_of_writable {s : State} {a : Addr} (h : s.writable a = true) : s.peek a = s.mem.read a.toNat := by
  unfold State.writable at h
  unfold State.peek
  cases hr : s.regionAt a.toNat with
  | none => rfl
  | some k => simp [hr] at h

theorem State.peek_of_read_eq {s t : State} (hc : t.cfg = s.cfg) (ht : t.trace = s.trace) {a : Addr}
    (hm : t.mem.read a.toNat = s.mem.read a.toNat) : t.peek a = s.peek a := by
  simp [State.peek, State.regionAt_congr hc, hm, ht]

/-- A store is seen at its address where that is RAM, and nowhere else (R56, R66). -/
theorem State.peek_poke {s : State} (h : s.mem.wf) (a b : Addr) (v : Byte) :
    (s.poke a v).peek b = if b = a ∧ s.writable a = true then v else s.peek b := by
  unfold State.poke
  by_cases hw : s.writable a = true
  · simp only [hw, if_true, and_true]
    by_cases hb : b = a
    · subst hb
      have e := State.peek_of_writable (s := { s with mem := s.mem.write b.toNat v }) (a := b) hw
      simpa [Memory.read_write h] using e
    · have hne : ¬ a.toNat = b.toNat := fun e => hb (BitVec.eq_of_toNat_eq e.symm)
      simp only [hb, if_false]
      refine State.peek_of_read_eq (s := s) (by rfl) (by rfl) ?_
      simp [Memory.read_write h, hne]
  · simp [hw]

/-- The same for a free byte. -/
theorem State.peek_pokeFree {s : State} (h : s.mem.wf) (a b : Addr) :
    (s.pokeFree a).peek b = if b = a ∧ s.writable a = true then Config.freeByte s.draws else s.peek b := by
  unfold State.pokeFree
  dsimp only
  by_cases hw : s.writable a = true
  · simp only [hw, if_true, and_true]
    by_cases hb : b = a
    · subst hb
      have e := State.peek_of_writable (s := { s.drew 1 with mem := s.mem.writeFree b.toNat s.draws }) (a := b) hw
      simpa [Memory.read_writeFree h] using e
    · have hne : ¬ a.toNat = b.toNat := fun e => hb (BitVec.eq_of_toNat_eq e.symm)
      simp only [hb, if_false]
      refine State.peek_of_read_eq (s := s) (by rfl) (by rfl) ?_
      simp [Memory.read_writeFree h, hne]
  · simp [hw]
    exact State.peek_congr rfl rfl rfl b

/-- An access noted changes nothing at a steady address. -/
theorem State.peek_noted {s : State} (x : Access) {a : Addr} (h : s.steady a = true) : (s.noted x).peek a = s.peek a :=
  State.peek_of_steady (s := s) (t := s.noted x) rfl h rfl

/-! ## The canonical form is kept -/

theorem State.wf_poke {s : State} (h : s.mem.wf) (a : Addr) (v : Byte) : (s.poke a v).mem.wf := by
  unfold State.poke
  split
  · exact Memory.wf_write h a.isLt v
  · exact h

theorem State.wf_pokeFree {s : State} (h : s.mem.wf) (a : Addr) : (s.pokeFree a).mem.wf := by
  unfold State.pokeFree
  dsimp only
  split
  · exact Memory.wf_writeFree h a.isLt s.draws
  · exact h

theorem State.wf_writeByte {s : State} (h : s.mem.wf) (a : Addr) (v : Byte) : (s.writeByte a v).mem.wf :=
  State.wf_poke h _ _

theorem State.wf_writeWord {s : State} (h : s.mem.wf) (a : Addr) (v : Word) : (s.writeWord a v).mem.wf :=
  State.wf_poke (State.wf_poke h _ _) _ _

theorem State.wf_writeLong {s : State} (h : s.mem.wf) (a : Addr) (v : Long) : (s.writeLong a v).mem.wf :=
  State.wf_writeWord (State.wf_writeWord h _ _) _ _

theorem State.wf_writeLongLowFirst {s : State} (h : s.mem.wf) (a : Addr) (v : Long) :
    (s.writeLongLowFirst a v).mem.wf :=
  State.wf_writeWord (State.wf_writeWord h _ _) _ _

theorem State.wf_writeEven {s : State} (h : s.mem.wf) (a : Addr) (v : Byte) : (s.writeEven a v).mem.wf :=
  State.wf_pokeFree (State.wf_poke h _ _) _

theorem State.wf_writeOdd {s : State} (h : s.mem.wf) (a : Addr) (v : Byte) : (s.writeOdd a v).mem.wf :=
  State.wf_poke (State.wf_pokeFree h _) _ _

theorem State.wf_writeFrame {s : State} (h : s.mem.wf) (a r : Addr) : (s.writeFrame a r).mem.wf := by
  unfold State.writeFrame
  dsimp only
  split
  · exact State.wf_writeEven (State.wf_writeWord h _ _) _ _
  · exact State.wf_writeWord (State.wf_writeWord h _ _) _ _

/-! ## Sequencing and guards: when they go on -/

theorem next_eq_next {s t : State} : (.next s : Result) = .next t ↔ t = s := by
  constructor
  · intro h; cases h; rfl
  · intro h; rw [h]

theorem andThen_eq_next {o : Result} {f : State → Result} {t : State} :
    andThen o f = .next t ↔ ∃ u, o = .next u ∧ f u = .next t := by
  cases o <;> simp [andThen]

theorem guardSp_eq_next {s t : State} {k : State → Result} :
    guardSp s k = .next t ↔ s.spOdd = false ∧ k s = .next t := by
  unfold guardSp
  cases h : s.spOdd <;> simp

theorem guardNext_eq_next {len : Nat} {ws : List Addr} {s t : State} {k : State → Result} :
    guardNext len ws s k = .next t ↔ (∀ a ∈ ws, s.hitsNext len a = false) ∧ k s = .next t := by
  unfold guardNext
  by_cases h : ws.any (s.hitsNext len) = true
  · simp only [h, if_true]
    obtain ⟨a, ha, hh⟩ := List.any_eq_true.1 h
    simp only [reduceCtorEq, false_iff, not_and]
    intro hall
    simp [hall a ha] at hh
  · simp only [h, Bool.false_eq_true, if_false]
    rw [Bool.not_eq_true, List.any_eq_false] at h
    simp only [Bool.not_eq_true] at h
    exact ⟨fun hk => ⟨h, hk⟩, fun hk => hk.2⟩

theorem guardStackReg_eq_next {n : RegNum} {s t : State} {k : State → Result} :
    guardStackReg n s k = .next t ↔ (n = .r7 → s.spOdd = false) ∧ k s = .next t := by
  cases n <;> simp [guardStackReg, guardSp_eq_next]

theorem guardEclock_eq_next {s t : State} {k : State → Result} :
    guardEclock s k = .next t ↔ s.cfg.hasEclock = true ∧ k s = .next t := by
  unfold guardEclock
  cases h : s.cfg.hasEclock <;> simp

/-! ## What the storing shapes can do -/

theorem forall_mem_pair {p : Addr → Prop} {a b : Addr} : (∀ x ∈ [a, b], p x) ↔ p a ∧ p b := by simp

theorem store8_eq_next {len : Nat} {ea : Addr} {rs : Reg8} {s t : State} :
    store8 len ea rs s = .next t ↔ s.hitsNext len ea = false ∧
      t = ((s.writeByte ea (s.reg8 rs)).setCcr (s.ccr.nzv0 (s.reg8 rs))).advance len := by
  simp only [store8, guardNext_eq_next, next_eq_next, List.forall_mem_singleton]

theorem store16_eq_next {len : Nat} {ea : Addr} {rs : Reg16} {s t : State} :
    store16 len ea rs s = .next t ↔ s.hitsNext len ea = false ∧
      t = ((s.writeWord ea (s.reg16 rs)).setCcr (s.ccr.nzv0 (s.reg16 rs))).advance len := by
  simp only [store16, guardNext_eq_next, next_eq_next, List.forall_mem_singleton]

theorem store32_eq_next {len : Nat} {ea : Addr} {ers : RegNum} {s t : State} :
    store32 len ea ers s = .next t ↔
      (s.hitsNext len ea = false ∧ s.hitsNext len (ea + 2#24) = false) ∧
      t = ((s.writeLong ea (s.reg32 ers)).setCcr (s.ccr.nzv0 (s.reg32 ers))).advance len := by
  simp only [store32, guardNext_eq_next, next_eq_next, forall_mem_pair]

theorem store32LowFirst_eq_next {len : Nat} {ea : Addr} {ers : RegNum} {s t : State} :
    store32LowFirst len ea ers s = .next t ↔
      (s.hitsNext len ea = false ∧ s.hitsNext len (ea + 2#24) = false) ∧
      t = ((s.writeLongLowFirst ea (s.reg32 ers)).setCcr (s.ccr.nzv0 (s.reg32 ers))).advance len := by
  simp only [store32LowFirst, guardNext_eq_next, next_eq_next, forall_mem_pair]

theorem storeCcr_eq_next {len : Nat} {ea : Addr} {s t : State} :
    storeCcr len ea s = .next t ↔
      s.hitsNext len ea = false ∧ t = (s.writeEven ea s.ccr.toByte).advance len := by
  simp only [storeCcr, guardNext_eq_next, next_eq_next, List.forall_mem_singleton]

theorem bitWriteMem_eq_next {ea : Addr} {f : Byte → Byte} {s t : State} :
    bitWriteMem ea f s = .next t ↔
      s.hitsNext 4 ea = false ∧ t = ((s.sawByte ea).writeByte ea (f (s.readByte ea))).advance 4 := by
  simp only [bitWriteMem, guardNext_eq_next, next_eq_next, List.forall_mem_singleton]

/-- One turn of EEPMOV's loop. -/
theorem copyByte_eq_next {c : State → State} {s t : State} :
    copyByte c s = .next t ↔ s.hitsNext 4 (s.eaInd .r6) = false ∧
      t = c ((((s.sawByte (s.eaInd .r5)).writeByte (s.eaInd .r6) (s.readByte (s.eaInd .r5))).stepUp .r5 1#32).stepUp
        .r6 1#32) := by
  simp only [copyByte, guardNext_eq_next, next_eq_next, List.forall_mem_singleton]

theorem copyBytes_succ {c : State → State} {k : Nat} {s t : State} :
    copyBytes c (k + 1) s = .next t ↔ ∃ u, copyByte c s = .next u ∧ copyBytes c k u = .next t := by
  simp [copyBytes, andThen_eq_next]

/-- A block copy that goes on keeps whatever one turn keeps. -/
theorem copyBytes_induct {P : State → Prop} {c : State → State}
    (h1 : ∀ s t, P s → copyByte c s = .next t → P t) :
    ∀ (k : Nat) (s t : State), P s → copyBytes c k s = .next t → P t
  | 0, s, t, hs, ht => by
    simp only [copyBytes] at ht
    cases ht
    exact hs
  | k + 1, s, t, hs, ht => by
    obtain ⟨u, hu, ht⟩ := copyBytes_succ.1 ht
    exact copyBytes_induct h1 k u t (h1 s u hs hu) ht

/-! ## Exceptions -/

theorem takeException_eq_next {v : Nat} {ret : Addr} {s t : State} :
    takeException v ret s = .next t ↔ s.spOdd = false ∧ t = s.entered v ret := by
  simp only [takeException, guardSp_eq_next, next_eq_next]

@[simp] theorem State.entered_er (s : State) (v : Nat) (r : Addr) :
    (s.entered v r).er = s.er.set .r7 (s.sp - 4#32) := by simp [State.entered]
@[simp] theorem State.entered_ccr (s : State) (v : Nat) (r : Addr) : (s.entered v r).ccr = s.maskedCcr := by
  simp [State.entered]
@[simp] theorem State.entered_pstate (s : State) (v : Nat) (r : Addr) :
    (s.entered v r).pstate = .programExecution := rfl
@[simp] theorem State.entered_irqInhibit (s : State) (v : Nat) (r : Addr) :
    (s.entered v r).irqInhibit = s.irqInhibit := by simp [State.entered]
@[simp] theorem State.entered_cfg (s : State) (v : Nat) (r : Addr) : (s.entered v r).cfg = s.cfg := by
  simp [State.entered]
@[simp] theorem State.entered_inputs (s : State) (v : Nat) (r : Addr) : (s.entered v r).inputs = s.inputs := by
  simp [State.entered]
@[simp] theorem State.entered_nmiCut (s : State) (v : Nat) (r : Addr) : (s.entered v r).nmiCut = s.nmiCut := by
  simp [State.entered]

/-- The memory after entry is the frame's. -/
theorem State.entered_mem (s : State) (v : Nat) (r : Addr) :
    (s.entered v r).mem =
      ((s.setReg32 .r7 (s.sp - 4#32)).writeFrame ((s.sp - 4#32).setWidth 24) r).mem := by
  simp [State.entered]

theorem returnFromException_eq_next {s t : State} :
    returnFromException s = .next t ↔ s.spOdd = false ∧
      t = (((s.sawLong (s.sp.setWidth 24)).setReg32 .r7 (s.sp + 4#32)).setCcr
        (Ccr.ofByte (s.readEven (s.sp.setWidth 24)))).setPc s.framePc := by
  simp only [returnFromException, guardSp_eq_next, next_eq_next]

/-- What an instruction boundary can do, by the processing state (R353, R383). -/
theorem boundary_eq_next {p : List IrqRequest} {cut : Option Nat} {s t : State}
    (h : boundary p cut s = .next t) :
    (s.pstate = .programExecution ∧ runInstruction cut s = .next t) ∨
    (∃ r, takeException (s.vectorOf r) s.pc s = .next t) ∨
    (s.pstate = .exceptionHandling ∧ t = resetException s) ∨ t = s := by
  unfold boundary at h
  split at h
  · next hp =>
    split at h
    · exact .inl ⟨hp, h⟩
    · split at h
      · exact .inr (.inl ⟨_, h⟩)
      · exact .inl ⟨hp, h⟩
  · split at h
    · exact .inr (.inl ⟨_, h⟩)
    · exact .inr (.inr (.inr (by simpa using h.symm)))
  · split at h
    · exact .inr (.inl ⟨_, h⟩)
    · exact .inr (.inr (.inr (by simpa using h.symm)))
  · next hp => exact .inr (.inr (.inl ⟨hp, by simpa using h.symm⟩))
  all_goals exact .inr (.inr (.inr (by simpa using h.symm)))

/-- Running an instruction is `exec` of what is fetched. -/
theorem runInstruction_eq_next {cut : Option Nat} {s t : State} :
    runInstruction cut s = .next t ↔
      ∃ i, s.fetch = some i ∧ exec i { s with irqInhibit := false, nmiCut := cut } = .next t := by
  unfold runInstruction
  cases h : s.fetch <;> simp

/-! ## Lists of addresses and bytes from outside -/

theorem State.wf_clobber : ∀ (l : List Nat) {s : State}, s.mem.wf → (s.clobber l).mem.wf
  | [], _, h => h
  | _ :: t, _, h => State.wf_clobber t (State.wf_pokeFree h _)

theorem State.wf_busWrites : ∀ (l : List Host.Cell) {s : State}, s.mem.wf → (s.busWrites l).mem.wf
  | [], _, h => h
  | _ :: t, _, h => State.wf_busWrites t (State.wf_poke h _ _)

/-! ## POP and PUSH are the MOV forms with ER7 (R111, log 28) -/

theorem execMovWLdInc_r7 (rn : Reg16) (s : State) : execMovWLdInc .r7 rn s = execPopW rn s := rfl

theorem execMovLLdInc_r7 (ern : RegNum) (s : State) : execMovLLdInc .r7 ern s = execPopL ern s := rfl

theorem execMovWStDec_r7 (rn : Reg16) (s : State) : execMovWStDec rn .r7 s = execPushW rn s := rfl

theorem execMovLStDec_r7 (ern : RegNum) (s : State) : execMovLStDec ern .r7 s = execPushL ern s := rfl

end Sys2Proof.Machine
end

