-- ==== Sys2Proof/Laws/PerInstr.lean ====
section
/-! SUPPORT. The lemma of each instruction: its encoding has its length, which is one of R80's. -/

namespace Sys2Proof.Laws.EncodedLength

/-- The encoding has the instruction's length, and that is 2, 4, 6, 8 or 10 bytes (R80). -/
def Statement (i : Instr) : Prop := (encode i).length = i.length ∧ i.length ∈ [2, 4, 6, 8, 10]

theorem mem2 : 2 ∈ [2, 4, 6, 8, 10] := by decide
theorem mem4 : 4 ∈ [2, 4, 6, 8, 10] := by decide
theorem mem6 : 6 ∈ [2, 4, 6, 8, 10] := by decide
theorem mem8 : 8 ∈ [2, 4, 6, 8, 10] := by decide
theorem mem10 : 10 ∈ [2, 4, 6, 8, 10] := by decide

theorem movBRR (a : Reg8) (b : Reg8) : Statement (.movBRR a b) := ⟨rfl, mem2⟩
theorem movWRR (a : Reg16) (b : Reg16) : Statement (.movWRR a b) := ⟨rfl, mem2⟩
theorem movLRR (a : RegNum) (b : RegNum) : Statement (.movLRR a b) := ⟨rfl, mem2⟩
theorem movBImm (a : BitVec 8) (b : Reg8) : Statement (.movBImm a b) := ⟨rfl, mem2⟩
theorem movWImm (a : BitVec 16) (b : Reg16) : Statement (.movWImm a b) := ⟨rfl, mem4⟩
theorem movLImm (a : BitVec 32) (b : RegNum) : Statement (.movLImm a b) := ⟨rfl, mem6⟩
theorem movBLdInd (a : RegNum) (b : Reg8) : Statement (.movBLdInd a b) := ⟨rfl, mem2⟩
theorem movWLdInd (a : RegNum) (b : Reg16) : Statement (.movWLdInd a b) := ⟨rfl, mem2⟩
theorem movLLdInd (a : RegNum) (b : RegNum) : Statement (.movLLdInd a b) := ⟨rfl, mem4⟩
theorem movBLdD16 (a : BitVec 16) (b : RegNum) (c : Reg8) : Statement (.movBLdD16 a b c) := ⟨rfl, mem4⟩
theorem movWLdD16 (a : BitVec 16) (b : RegNum) (c : Reg16) : Statement (.movWLdD16 a b c) := ⟨rfl, mem4⟩
theorem movLLdD16 (a : BitVec 16) (b : RegNum) (c : RegNum) : Statement (.movLLdD16 a b c) := ⟨rfl, mem6⟩
theorem movBLdD24 (a : BitVec 24) (b : RegNum) (c : Reg8) : Statement (.movBLdD24 a b c) := ⟨rfl, mem8⟩
theorem movWLdD24 (a : BitVec 24) (b : RegNum) (c : Reg16) : Statement (.movWLdD24 a b c) := ⟨rfl, mem8⟩
theorem movLLdD24 (a : BitVec 24) (b : RegNum) (c : RegNum) : Statement (.movLLdD24 a b c) := ⟨rfl, mem10⟩
theorem movBLdInc (a : RegNum) (b : Reg8) : Statement (.movBLdInc a b) := ⟨rfl, mem2⟩
theorem movWLdInc (a : RegNum) (b : Reg16) : Statement (.movWLdInc a b) := ⟨rfl, mem2⟩
theorem movLLdInc (a : RegNum) (b : RegNum) : Statement (.movLLdInc a b) := ⟨rfl, mem4⟩
theorem movBLdA8 (a : BitVec 8) (b : Reg8) : Statement (.movBLdA8 a b) := ⟨rfl, mem2⟩
theorem movBLdA16 (a : BitVec 16) (b : Reg8) : Statement (.movBLdA16 a b) := ⟨rfl, mem4⟩
theorem movWLdA16 (a : BitVec 16) (b : Reg16) : Statement (.movWLdA16 a b) := ⟨rfl, mem4⟩
theorem movLLdA16 (a : BitVec 16) (b : RegNum) : Statement (.movLLdA16 a b) := ⟨rfl, mem6⟩
theorem movBLdA24 (a : BitVec 24) (b : Reg8) : Statement (.movBLdA24 a b) := ⟨rfl, mem6⟩
theorem movWLdA24 (a : BitVec 24) (b : Reg16) : Statement (.movWLdA24 a b) := ⟨rfl, mem6⟩
theorem movLLdA24 (a : BitVec 24) (b : RegNum) : Statement (.movLLdA24 a b) := ⟨rfl, mem8⟩
theorem movBStInd (a : Reg8) (b : RegNum) : Statement (.movBStInd a b) := ⟨rfl, mem2⟩
theorem movWStInd (a : Reg16) (b : RegNum) : Statement (.movWStInd a b) := ⟨rfl, mem2⟩
theorem movLStInd (a : RegNum) (b : RegNum) : Statement (.movLStInd a b) := ⟨rfl, mem4⟩
theorem movBStD16 (a : Reg8) (b : BitVec 16) (c : RegNum) : Statement (.movBStD16 a b c) := ⟨rfl, mem4⟩
theorem movWStD16 (a : Reg16) (b : BitVec 16) (c : RegNum) : Statement (.movWStD16 a b c) := ⟨rfl, mem4⟩
theorem movLStD16 (a : RegNum) (b : BitVec 16) (c : RegNum) : Statement (.movLStD16 a b c) := ⟨rfl, mem6⟩
theorem movBStD24 (a : Reg8) (b : BitVec 24) (c : RegNum) : Statement (.movBStD24 a b c) := ⟨rfl, mem8⟩
theorem movWStD24 (a : Reg16) (b : BitVec 24) (c : RegNum) : Statement (.movWStD24 a b c) := ⟨rfl, mem8⟩
theorem movLStD24 (a : RegNum) (b : BitVec 24) (c : RegNum) : Statement (.movLStD24 a b c) := ⟨rfl, mem10⟩
theorem movBStDec (a : Reg8) (b : RegNum) : Statement (.movBStDec a b) := ⟨rfl, mem2⟩
theorem movWStDec (a : Reg16) (b : RegNum) : Statement (.movWStDec a b) := ⟨rfl, mem2⟩
theorem movLStDec (a : RegNum) (b : RegNum) : Statement (.movLStDec a b) := ⟨rfl, mem4⟩
theorem movBStA8 (a : Reg8) (b : BitVec 8) : Statement (.movBStA8 a b) := ⟨rfl, mem2⟩
theorem movBStA16 (a : Reg8) (b : BitVec 16) : Statement (.movBStA16 a b) := ⟨rfl, mem4⟩
theorem movWStA16 (a : Reg16) (b : BitVec 16) : Statement (.movWStA16 a b) := ⟨rfl, mem4⟩
theorem movLStA16 (a : RegNum) (b : BitVec 16) : Statement (.movLStA16 a b) := ⟨rfl, mem6⟩
theorem movBStA24 (a : Reg8) (b : BitVec 24) : Statement (.movBStA24 a b) := ⟨rfl, mem6⟩
theorem movWStA24 (a : Reg16) (b : BitVec 24) : Statement (.movWStA24 a b) := ⟨rfl, mem6⟩
theorem movLStA24 (a : RegNum) (b : BitVec 24) : Statement (.movLStA24 a b) := ⟨rfl, mem8⟩
theorem movfpe (a : BitVec 16) (b : Reg8) : Statement (.movfpe a b) := ⟨rfl, mem4⟩
theorem movtpe (a : Reg8) (b : BitVec 16) : Statement (.movtpe a b) := ⟨rfl, mem4⟩
theorem popW (a : Reg16) : Statement (.popW a) := ⟨rfl, mem2⟩
theorem popL (a : RegNum) : Statement (.popL a) := ⟨rfl, mem4⟩
theorem pushW (a : Reg16) : Statement (.pushW a) := ⟨rfl, mem2⟩
theorem pushL (a : RegNum) : Statement (.pushL a) := ⟨rfl, mem4⟩
theorem addBImm (a : BitVec 8) (b : Reg8) : Statement (.addBImm a b) := ⟨rfl, mem2⟩
theorem addBReg (a : Reg8) (b : Reg8) : Statement (.addBReg a b) := ⟨rfl, mem2⟩
theorem addWImm (a : BitVec 16) (b : Reg16) : Statement (.addWImm a b) := ⟨rfl, mem4⟩
theorem addWReg (a : Reg16) (b : Reg16) : Statement (.addWReg a b) := ⟨rfl, mem2⟩
theorem addLImm (a : BitVec 32) (b : RegNum) : Statement (.addLImm a b) := ⟨rfl, mem6⟩
theorem addLReg (a : RegNum) (b : RegNum) : Statement (.addLReg a b) := ⟨rfl, mem2⟩
theorem subBReg (a : Reg8) (b : Reg8) : Statement (.subBReg a b) := ⟨rfl, mem2⟩
theorem subWImm (a : BitVec 16) (b : Reg16) : Statement (.subWImm a b) := ⟨rfl, mem4⟩
theorem subWReg (a : Reg16) (b : Reg16) : Statement (.subWReg a b) := ⟨rfl, mem2⟩
theorem subLImm (a : BitVec 32) (b : RegNum) : Statement (.subLImm a b) := ⟨rfl, mem6⟩
theorem subLReg (a : RegNum) (b : RegNum) : Statement (.subLReg a b) := ⟨rfl, mem2⟩
theorem addxImm (a : BitVec 8) (b : Reg8) : Statement (.addxImm a b) := ⟨rfl, mem2⟩
theorem addxReg (a : Reg8) (b : Reg8) : Statement (.addxReg a b) := ⟨rfl, mem2⟩
theorem subxImm (a : BitVec 8) (b : Reg8) : Statement (.subxImm a b) := ⟨rfl, mem2⟩
theorem subxReg (a : Reg8) (b : Reg8) : Statement (.subxReg a b) := ⟨rfl, mem2⟩
theorem incB (a : Reg8) : Statement (.incB a) := ⟨rfl, mem2⟩
theorem incW1 (a : Reg16) : Statement (.incW1 a) := ⟨rfl, mem2⟩
theorem incW2 (a : Reg16) : Statement (.incW2 a) := ⟨rfl, mem2⟩
theorem incL1 (a : RegNum) : Statement (.incL1 a) := ⟨rfl, mem2⟩
theorem incL2 (a : RegNum) : Statement (.incL2 a) := ⟨rfl, mem2⟩
theorem decB (a : Reg8) : Statement (.decB a) := ⟨rfl, mem2⟩
theorem decW1 (a : Reg16) : Statement (.decW1 a) := ⟨rfl, mem2⟩
theorem decW2 (a : Reg16) : Statement (.decW2 a) := ⟨rfl, mem2⟩
theorem decL1 (a : RegNum) : Statement (.decL1 a) := ⟨rfl, mem2⟩
theorem decL2 (a : RegNum) : Statement (.decL2 a) := ⟨rfl, mem2⟩
theorem adds1 (a : RegNum) : Statement (.adds1 a) := ⟨rfl, mem2⟩
theorem adds2 (a : RegNum) : Statement (.adds2 a) := ⟨rfl, mem2⟩
theorem adds4 (a : RegNum) : Statement (.adds4 a) := ⟨rfl, mem2⟩
theorem subs1 (a : RegNum) : Statement (.subs1 a) := ⟨rfl, mem2⟩
theorem subs2 (a : RegNum) : Statement (.subs2 a) := ⟨rfl, mem2⟩
theorem subs4 (a : RegNum) : Statement (.subs4 a) := ⟨rfl, mem2⟩
theorem daa (a : Reg8) : Statement (.daa a) := ⟨rfl, mem2⟩
theorem das (a : Reg8) : Statement (.das a) := ⟨rfl, mem2⟩
theorem mulxuB (a : Reg8) (b : Reg16) : Statement (.mulxuB a b) := ⟨rfl, mem2⟩
theorem mulxuW (a : Reg16) (b : RegNum) : Statement (.mulxuW a b) := ⟨rfl, mem2⟩
theorem mulxsB (a : Reg8) (b : Reg16) : Statement (.mulxsB a b) := ⟨rfl, mem4⟩
theorem mulxsW (a : Reg16) (b : RegNum) : Statement (.mulxsW a b) := ⟨rfl, mem4⟩
theorem divxuB (a : Reg8) (b : Reg16) : Statement (.divxuB a b) := ⟨rfl, mem2⟩
theorem divxuW (a : Reg16) (b : RegNum) : Statement (.divxuW a b) := ⟨rfl, mem2⟩
theorem divxsB (a : Reg8) (b : Reg16) : Statement (.divxsB a b) := ⟨rfl, mem4⟩
theorem divxsW (a : Reg16) (b : RegNum) : Statement (.divxsW a b) := ⟨rfl, mem4⟩
theorem cmpBImm (a : BitVec 8) (b : Reg8) : Statement (.cmpBImm a b) := ⟨rfl, mem2⟩
theorem cmpBReg (a : Reg8) (b : Reg8) : Statement (.cmpBReg a b) := ⟨rfl, mem2⟩
theorem cmpWImm (a : BitVec 16) (b : Reg16) : Statement (.cmpWImm a b) := ⟨rfl, mem4⟩
theorem cmpWReg (a : Reg16) (b : Reg16) : Statement (.cmpWReg a b) := ⟨rfl, mem2⟩
theorem cmpLImm (a : BitVec 32) (b : RegNum) : Statement (.cmpLImm a b) := ⟨rfl, mem6⟩
theorem cmpLReg (a : RegNum) (b : RegNum) : Statement (.cmpLReg a b) := ⟨rfl, mem2⟩
theorem negB (a : Reg8) : Statement (.negB a) := ⟨rfl, mem2⟩
theorem negW (a : Reg16) : Statement (.negW a) := ⟨rfl, mem2⟩
theorem negL (a : RegNum) : Statement (.negL a) := ⟨rfl, mem2⟩
theorem extsW (a : Reg16) : Statement (.extsW a) := ⟨rfl, mem2⟩
theorem extsL (a : RegNum) : Statement (.extsL a) := ⟨rfl, mem2⟩
theorem extuW (a : Reg16) : Statement (.extuW a) := ⟨rfl, mem2⟩
theorem extuL (a : RegNum) : Statement (.extuL a) := ⟨rfl, mem2⟩
theorem andBImm (a : BitVec 8) (b : Reg8) : Statement (.andBImm a b) := ⟨rfl, mem2⟩
theorem andBReg (a : Reg8) (b : Reg8) : Statement (.andBReg a b) := ⟨rfl, mem2⟩
theorem andWImm (a : BitVec 16) (b : Reg16) : Statement (.andWImm a b) := ⟨rfl, mem4⟩
theorem andWReg (a : Reg16) (b : Reg16) : Statement (.andWReg a b) := ⟨rfl, mem2⟩
theorem andLImm (a : BitVec 32) (b : RegNum) : Statement (.andLImm a b) := ⟨rfl, mem6⟩
theorem andLReg (a : RegNum) (b : RegNum) : Statement (.andLReg a b) := ⟨rfl, mem4⟩
theorem orBImm (a : BitVec 8) (b : Reg8) : Statement (.orBImm a b) := ⟨rfl, mem2⟩
theorem orBReg (a : Reg8) (b : Reg8) : Statement (.orBReg a b) := ⟨rfl, mem2⟩
theorem orWImm (a : BitVec 16) (b : Reg16) : Statement (.orWImm a b) := ⟨rfl, mem4⟩
theorem orWReg (a : Reg16) (b : Reg16) : Statement (.orWReg a b) := ⟨rfl, mem2⟩
theorem orLImm (a : BitVec 32) (b : RegNum) : Statement (.orLImm a b) := ⟨rfl, mem6⟩
theorem orLReg (a : RegNum) (b : RegNum) : Statement (.orLReg a b) := ⟨rfl, mem4⟩
theorem xorBImm (a : BitVec 8) (b : Reg8) : Statement (.xorBImm a b) := ⟨rfl, mem2⟩
theorem xorBReg (a : Reg8) (b : Reg8) : Statement (.xorBReg a b) := ⟨rfl, mem2⟩
theorem xorWImm (a : BitVec 16) (b : Reg16) : Statement (.xorWImm a b) := ⟨rfl, mem4⟩
theorem xorWReg (a : Reg16) (b : Reg16) : Statement (.xorWReg a b) := ⟨rfl, mem2⟩
theorem xorLImm (a : BitVec 32) (b : RegNum) : Statement (.xorLImm a b) := ⟨rfl, mem6⟩
theorem xorLReg (a : RegNum) (b : RegNum) : Statement (.xorLReg a b) := ⟨rfl, mem4⟩
theorem notB (a : Reg8) : Statement (.notB a) := ⟨rfl, mem2⟩
theorem notW (a : Reg16) : Statement (.notW a) := ⟨rfl, mem2⟩
theorem notL (a : RegNum) : Statement (.notL a) := ⟨rfl, mem2⟩
theorem shalB (a : Reg8) : Statement (.shalB a) := ⟨rfl, mem2⟩
theorem shalW (a : Reg16) : Statement (.shalW a) := ⟨rfl, mem2⟩
theorem shalL (a : RegNum) : Statement (.shalL a) := ⟨rfl, mem2⟩
theorem sharB (a : Reg8) : Statement (.sharB a) := ⟨rfl, mem2⟩
theorem sharW (a : Reg16) : Statement (.sharW a) := ⟨rfl, mem2⟩
theorem sharL (a : RegNum) : Statement (.sharL a) := ⟨rfl, mem2⟩
theorem shllB (a : Reg8) : Statement (.shllB a) := ⟨rfl, mem2⟩
theorem shllW (a : Reg16) : Statement (.shllW a) := ⟨rfl, mem2⟩
theorem shllL (a : RegNum) : Statement (.shllL a) := ⟨rfl, mem2⟩
theorem shlrB (a : Reg8) : Statement (.shlrB a) := ⟨rfl, mem2⟩
theorem shlrW (a : Reg16) : Statement (.shlrW a) := ⟨rfl, mem2⟩
theorem shlrL (a : RegNum) : Statement (.shlrL a) := ⟨rfl, mem2⟩
theorem rotlB (a : Reg8) : Statement (.rotlB a) := ⟨rfl, mem2⟩
theorem rotlW (a : Reg16) : Statement (.rotlW a) := ⟨rfl, mem2⟩
theorem rotlL (a : RegNum) : Statement (.rotlL a) := ⟨rfl, mem2⟩
theorem rotrB (a : Reg8) : Statement (.rotrB a) := ⟨rfl, mem2⟩
theorem rotrW (a : Reg16) : Statement (.rotrW a) := ⟨rfl, mem2⟩
theorem rotrL (a : RegNum) : Statement (.rotrL a) := ⟨rfl, mem2⟩
theorem rotxlB (a : Reg8) : Statement (.rotxlB a) := ⟨rfl, mem2⟩
theorem rotxlW (a : Reg16) : Statement (.rotxlW a) := ⟨rfl, mem2⟩
theorem rotxlL (a : RegNum) : Statement (.rotxlL a) := ⟨rfl, mem2⟩
theorem rotxrB (a : Reg8) : Statement (.rotxrB a) := ⟨rfl, mem2⟩
theorem rotxrW (a : Reg16) : Statement (.rotxrW a) := ⟨rfl, mem2⟩
theorem rotxrL (a : RegNum) : Statement (.rotxrL a) := ⟨rfl, mem2⟩
theorem bsetImmReg (a : BitVec 3) (b : Reg8) : Statement (.bsetImmReg a b) := ⟨rfl, mem2⟩
theorem bsetImmInd (a : BitVec 3) (b : RegNum) : Statement (.bsetImmInd a b) := ⟨rfl, mem4⟩
theorem bsetImmAbs (a : BitVec 3) (b : BitVec 8) : Statement (.bsetImmAbs a b) := ⟨rfl, mem4⟩
theorem bsetRegReg (a : Reg8) (b : Reg8) : Statement (.bsetRegReg a b) := ⟨rfl, mem2⟩
theorem bsetRegInd (a : Reg8) (b : RegNum) : Statement (.bsetRegInd a b) := ⟨rfl, mem4⟩
theorem bsetRegAbs (a : Reg8) (b : BitVec 8) : Statement (.bsetRegAbs a b) := ⟨rfl, mem4⟩
theorem bclrImmReg (a : BitVec 3) (b : Reg8) : Statement (.bclrImmReg a b) := ⟨rfl, mem2⟩
theorem bclrImmInd (a : BitVec 3) (b : RegNum) : Statement (.bclrImmInd a b) := ⟨rfl, mem4⟩
theorem bclrImmAbs (a : BitVec 3) (b : BitVec 8) : Statement (.bclrImmAbs a b) := ⟨rfl, mem4⟩
theorem bclrRegReg (a : Reg8) (b : Reg8) : Statement (.bclrRegReg a b) := ⟨rfl, mem2⟩
theorem bclrRegInd (a : Reg8) (b : RegNum) : Statement (.bclrRegInd a b) := ⟨rfl, mem4⟩
theorem bclrRegAbs (a : Reg8) (b : BitVec 8) : Statement (.bclrRegAbs a b) := ⟨rfl, mem4⟩
theorem bnotImmReg (a : BitVec 3) (b : Reg8) : Statement (.bnotImmReg a b) := ⟨rfl, mem2⟩
theorem bnotImmInd (a : BitVec 3) (b : RegNum) : Statement (.bnotImmInd a b) := ⟨rfl, mem4⟩
theorem bnotImmAbs (a : BitVec 3) (b : BitVec 8) : Statement (.bnotImmAbs a b) := ⟨rfl, mem4⟩
theorem bnotRegReg (a : Reg8) (b : Reg8) : Statement (.bnotRegReg a b) := ⟨rfl, mem2⟩
theorem bnotRegInd (a : Reg8) (b : RegNum) : Statement (.bnotRegInd a b) := ⟨rfl, mem4⟩
theorem bnotRegAbs (a : Reg8) (b : BitVec 8) : Statement (.bnotRegAbs a b) := ⟨rfl, mem4⟩
theorem btstImmReg (a : BitVec 3) (b : Reg8) : Statement (.btstImmReg a b) := ⟨rfl, mem2⟩
theorem btstImmInd (a : BitVec 3) (b : RegNum) : Statement (.btstImmInd a b) := ⟨rfl, mem4⟩
theorem btstImmAbs (a : BitVec 3) (b : BitVec 8) : Statement (.btstImmAbs a b) := ⟨rfl, mem4⟩
theorem btstRegReg (a : Reg8) (b : Reg8) : Statement (.btstRegReg a b) := ⟨rfl, mem2⟩
theorem btstRegInd (a : Reg8) (b : RegNum) : Statement (.btstRegInd a b) := ⟨rfl, mem4⟩
theorem btstRegAbs (a : Reg8) (b : BitVec 8) : Statement (.btstRegAbs a b) := ⟨rfl, mem4⟩
theorem bandReg (a : BitVec 3) (b : Reg8) : Statement (.bandReg a b) := ⟨rfl, mem2⟩
theorem bandInd (a : BitVec 3) (b : RegNum) : Statement (.bandInd a b) := ⟨rfl, mem4⟩
theorem bandAbs (a : BitVec 3) (b : BitVec 8) : Statement (.bandAbs a b) := ⟨rfl, mem4⟩
theorem biandReg (a : BitVec 3) (b : Reg8) : Statement (.biandReg a b) := ⟨rfl, mem2⟩
theorem biandInd (a : BitVec 3) (b : RegNum) : Statement (.biandInd a b) := ⟨rfl, mem4⟩
theorem biandAbs (a : BitVec 3) (b : BitVec 8) : Statement (.biandAbs a b) := ⟨rfl, mem4⟩
theorem borReg (a : BitVec 3) (b : Reg8) : Statement (.borReg a b) := ⟨rfl, mem2⟩
theorem borInd (a : BitVec 3) (b : RegNum) : Statement (.borInd a b) := ⟨rfl, mem4⟩
theorem borAbs (a : BitVec 3) (b : BitVec 8) : Statement (.borAbs a b) := ⟨rfl, mem4⟩
theorem biorReg (a : BitVec 3) (b : Reg8) : Statement (.biorReg a b) := ⟨rfl, mem2⟩
theorem biorInd (a : BitVec 3) (b : RegNum) : Statement (.biorInd a b) := ⟨rfl, mem4⟩
theorem biorAbs (a : BitVec 3) (b : BitVec 8) : Statement (.biorAbs a b) := ⟨rfl, mem4⟩
theorem bxorReg (a : BitVec 3) (b : Reg8) : Statement (.bxorReg a b) := ⟨rfl, mem2⟩
theorem bxorInd (a : BitVec 3) (b : RegNum) : Statement (.bxorInd a b) := ⟨rfl, mem4⟩
theorem bxorAbs (a : BitVec 3) (b : BitVec 8) : Statement (.bxorAbs a b) := ⟨rfl, mem4⟩
theorem bixorReg (a : BitVec 3) (b : Reg8) : Statement (.bixorReg a b) := ⟨rfl, mem2⟩
theorem bixorInd (a : BitVec 3) (b : RegNum) : Statement (.bixorInd a b) := ⟨rfl, mem4⟩
theorem bixorAbs (a : BitVec 3) (b : BitVec 8) : Statement (.bixorAbs a b) := ⟨rfl, mem4⟩
theorem bldReg (a : BitVec 3) (b : Reg8) : Statement (.bldReg a b) := ⟨rfl, mem2⟩
theorem bldInd (a : BitVec 3) (b : RegNum) : Statement (.bldInd a b) := ⟨rfl, mem4⟩
theorem bldAbs (a : BitVec 3) (b : BitVec 8) : Statement (.bldAbs a b) := ⟨rfl, mem4⟩
theorem bildReg (a : BitVec 3) (b : Reg8) : Statement (.bildReg a b) := ⟨rfl, mem2⟩
theorem bildInd (a : BitVec 3) (b : RegNum) : Statement (.bildInd a b) := ⟨rfl, mem4⟩
theorem bildAbs (a : BitVec 3) (b : BitVec 8) : Statement (.bildAbs a b) := ⟨rfl, mem4⟩
theorem bstReg (a : BitVec 3) (b : Reg8) : Statement (.bstReg a b) := ⟨rfl, mem2⟩
theorem bstInd (a : BitVec 3) (b : RegNum) : Statement (.bstInd a b) := ⟨rfl, mem4⟩
theorem bstAbs (a : BitVec 3) (b : BitVec 8) : Statement (.bstAbs a b) := ⟨rfl, mem4⟩
theorem bistReg (a : BitVec 3) (b : Reg8) : Statement (.bistReg a b) := ⟨rfl, mem2⟩
theorem bistInd (a : BitVec 3) (b : RegNum) : Statement (.bistInd a b) := ⟨rfl, mem4⟩
theorem bistAbs (a : BitVec 3) (b : BitVec 8) : Statement (.bistAbs a b) := ⟨rfl, mem4⟩
theorem bra (a : Disp) : Statement (.bra a) := by
  cases a <;> first | exact ⟨rfl, mem2⟩ | exact ⟨rfl, mem4⟩
theorem brn (a : Disp) : Statement (.brn a) := by
  cases a <;> first | exact ⟨rfl, mem2⟩ | exact ⟨rfl, mem4⟩
theorem bhi (a : Disp) : Statement (.bhi a) := by
  cases a <;> first | exact ⟨rfl, mem2⟩ | exact ⟨rfl, mem4⟩
theorem bls (a : Disp) : Statement (.bls a) := by
  cases a <;> first | exact ⟨rfl, mem2⟩ | exact ⟨rfl, mem4⟩
theorem bcc (a : Disp) : Statement (.bcc a) := by
  cases a <;> first | exact ⟨rfl, mem2⟩ | exact ⟨rfl, mem4⟩
theorem bcs (a : Disp) : Statement (.bcs a) := by
  cases a <;> first | exact ⟨rfl, mem2⟩ | exact ⟨rfl, mem4⟩
theorem bne (a : Disp) : Statement (.bne a) := by
  cases a <;> first | exact ⟨rfl, mem2⟩ | exact ⟨rfl, mem4⟩
theorem beq (a : Disp) : Statement (.beq a) := by
  cases a <;> first | exact ⟨rfl, mem2⟩ | exact ⟨rfl, mem4⟩
theorem bvc (a : Disp) : Statement (.bvc a) := by
  cases a <;> first | exact ⟨rfl, mem2⟩ | exact ⟨rfl, mem4⟩
theorem bvs (a : Disp) : Statement (.bvs a) := by
  cases a <;> first | exact ⟨rfl, mem2⟩ | exact ⟨rfl, mem4⟩
theorem bpl (a : Disp) : Statement (.bpl a) := by
  cases a <;> first | exact ⟨rfl, mem2⟩ | exact ⟨rfl, mem4⟩
theorem bmi (a : Disp) : Statement (.bmi a) := by
  cases a <;> first | exact ⟨rfl, mem2⟩ | exact ⟨rfl, mem4⟩
theorem bge (a : Disp) : Statement (.bge a) := by
  cases a <;> first | exact ⟨rfl, mem2⟩ | exact ⟨rfl, mem4⟩
theorem blt (a : Disp) : Statement (.blt a) := by
  cases a <;> first | exact ⟨rfl, mem2⟩ | exact ⟨rfl, mem4⟩
theorem bgt (a : Disp) : Statement (.bgt a) := by
  cases a <;> first | exact ⟨rfl, mem2⟩ | exact ⟨rfl, mem4⟩
theorem ble (a : Disp) : Statement (.ble a) := by
  cases a <;> first | exact ⟨rfl, mem2⟩ | exact ⟨rfl, mem4⟩
theorem jmpInd (a : RegNum) : Statement (.jmpInd a) := ⟨rfl, mem2⟩
theorem jmpAbs (a : BitVec 24) : Statement (.jmpAbs a) := ⟨rfl, mem4⟩
theorem jmpMem (a : BitVec 8) : Statement (.jmpMem a) := ⟨rfl, mem2⟩
theorem bsr (a : Disp) : Statement (.bsr a) := by
  cases a <;> first | exact ⟨rfl, mem2⟩ | exact ⟨rfl, mem4⟩
theorem jsrInd (a : RegNum) : Statement (.jsrInd a) := ⟨rfl, mem2⟩
theorem jsrAbs (a : BitVec 24) : Statement (.jsrAbs a) := ⟨rfl, mem4⟩
theorem jsrMem (a : BitVec 8) : Statement (.jsrMem a) := ⟨rfl, mem2⟩
theorem ldcBImm (a : BitVec 8) : Statement (.ldcBImm a) := ⟨rfl, mem2⟩
theorem ldcBReg (a : Reg8) : Statement (.ldcBReg a) := ⟨rfl, mem2⟩
theorem ldcWInd (a : RegNum) : Statement (.ldcWInd a) := ⟨rfl, mem4⟩
theorem ldcWD16 (a : BitVec 16) (b : RegNum) : Statement (.ldcWD16 a b) := ⟨rfl, mem6⟩
theorem ldcWD24 (a : BitVec 24) (b : RegNum) : Statement (.ldcWD24 a b) := ⟨rfl, mem10⟩
theorem ldcWInc (a : RegNum) : Statement (.ldcWInc a) := ⟨rfl, mem4⟩
theorem ldcWA16 (a : BitVec 16) : Statement (.ldcWA16 a) := ⟨rfl, mem6⟩
theorem ldcWA24 (a : BitVec 24) : Statement (.ldcWA24 a) := ⟨rfl, mem8⟩
theorem stcBReg (a : Reg8) : Statement (.stcBReg a) := ⟨rfl, mem2⟩
theorem stcWInd (a : RegNum) : Statement (.stcWInd a) := ⟨rfl, mem4⟩
theorem stcWD16 (a : BitVec 16) (b : RegNum) : Statement (.stcWD16 a b) := ⟨rfl, mem6⟩
theorem stcWD24 (a : BitVec 24) (b : RegNum) : Statement (.stcWD24 a b) := ⟨rfl, mem10⟩
theorem stcWDec (a : RegNum) : Statement (.stcWDec a) := ⟨rfl, mem4⟩
theorem stcWA16 (a : BitVec 16) : Statement (.stcWA16 a) := ⟨rfl, mem6⟩
theorem stcWA24 (a : BitVec 24) : Statement (.stcWA24 a) := ⟨rfl, mem8⟩
theorem andc (a : BitVec 8) : Statement (.andc a) := ⟨rfl, mem2⟩
theorem orc (a : BitVec 8) : Statement (.orc a) := ⟨rfl, mem2⟩
theorem xorc (a : BitVec 8) : Statement (.xorc a) := ⟨rfl, mem2⟩
theorem rts : Statement .rts := ⟨rfl, mem2⟩
theorem rte : Statement .rte := ⟨rfl, mem2⟩
theorem trapa0 : Statement .trapa0 := ⟨rfl, mem2⟩
theorem trapa1 : Statement .trapa1 := ⟨rfl, mem2⟩
theorem trapa2 : Statement .trapa2 := ⟨rfl, mem2⟩
theorem trapa3 : Statement .trapa3 := ⟨rfl, mem2⟩
theorem sleep : Statement .sleep := ⟨rfl, mem2⟩
theorem nop : Statement .nop := ⟨rfl, mem2⟩
theorem eepmovB : Statement .eepmovB := ⟨rfl, mem4⟩
theorem eepmovW : Statement .eepmovW := ⟨rfl, mem4⟩

end Sys2Proof.Laws.EncodedLength
end

