-- ==== Sys2Proof/Tests/Slice0.lean ====
section
/-! SUPPORT. Tests: the refusals of WellFormed, one word per constructor, the reset state, single steps with the values
of the spec's test vectors, and a witness for the hypotheses of each statement. -/

open Sys2Proof Sys2Proof.Machine

namespace Sys2Proof.Tests

/-! ## Helpers -/

/-- Every list of bytes decodes to its instruction. -/
abbrev decodesTo (l : List (List Byte × Instr)) : Prop := ∀ p ∈ l, decode p.1 = some p.2

/-- A state in program execution with a pc, a CCR, some registers and some bytes of memory; advanced mode, RAM
everywhere. -/
def before (pc : Addr) (ccr : Byte) (er : List (RegNum × Long)) (cells : List (Nat × Byte)) : State :=
  { State.reset with
    er := er.foldl (fun r p => r.set p.1 p.2) State.reset.er
    pc := pc
    ccr := Ccr.ofByte ccr
    irqInhibit := false
    mem := cells.foldl (fun m c => m.write c.1 c.2) State.reset.mem }

/-- The same in normal mode. -/
def beforeN (pc : Addr) (ccr : Byte) (er : List (RegNum × Long)) (cells : List (Nat × Byte)) : State :=
  { before pc ccr er cells with cfg := { resetPlatform with mode := .normal } }

/-- One step on bytes placed at the pc. -/
def run (code : List Byte) (s : State) : Option State :=
  match step (s.placeCode code) with
  | .next t => some t
  | _ => none

/-- The step went on to this pc, this CCR if one is given, these registers and these bytes. -/
def shows (o : Option State) (pc : Addr) (ccr : Option Byte) (er : List (RegNum × Long)) (cells : List (Nat × Byte)) :
    Bool :=
  match o with
  | none => false
  | some t =>
    t.pc == pc && ccr.all (fun c => t.ccr.toByte == c) && er.all (fun p => t.reg32 p.1 == p.2) &&
      cells.all (fun c => t.readByte (BitVec.ofNat 24 c.1) == c.2)

/-- The step stopped for this reason. -/
def stops (code : List Byte) (s : State) (r : Refusal) : Bool :=
  match step (s.placeCode code) with
  | .refused q => q == r
  | _ => false

/-! ## WellFormed: one ill-formed term for each check -/

theorem test_ill_formed_movWLdInc : (Instr.movWLdInc .r7 { ext := false, n := .r1 }).wellFormed = false := rfl
theorem test_ill_formed_movLLdInc : (Instr.movLLdInc .r7 .r1).wellFormed = false := rfl
theorem test_ill_formed_movWStDec : (Instr.movWStDec { ext := false, n := .r1 } .r7).wellFormed = false := rfl
theorem test_ill_formed_movLStDec : (Instr.movLStDec .r1 .r7).wellFormed = false := rfl
theorem test_well_formed_popW : (Instr.popW { ext := false, n := .r1 }).wellFormed = true := rfl

/-- The words of MOV.W @ER7+ and MOV.L @-ER7 are those of POP.W and PUSH.L (R398). -/
theorem test_stack_forms_decode : decodesTo
    [([0x6D, 0x71], .popW { ext := false, n := .r1 }), ([0x01, 0x00, 0x6D, 0xF2], .pushL .r2)] := by decide

/-- Words R107 names as undefined. -/
theorem test_undefined_words : ∀ bs ∈ ([[0x0B, 0x10], [0x10, 0x20], [0x59, 0x08], [0x57, 0x40], [0x58, 0x01, 0, 0],
    [0x0B, 0x08], [0x7A, 0x70, 0, 0, 0, 0], [0x0C]] : List (List Byte)), decode bs = none := by decide

/-! ## Decoding: a word for every constructor -/

/-- Words written out from the encodings of spec/40_data_transfer.md. -/
theorem test_decode_data_transfer_1 : decodesTo
    [([0x0C, 0x3C], .movBRR { low := false, n := .r3 } { low := true, n := .r4 }),
      ([0x0D, 0xC9], .movWRR { ext := true, n := .r4 } { ext := true, n := .r1 }), ([0x0F, 0xE5], .movLRR .r6 .r5),
      ([0xF3, 0x84], .movBImm 0x84#8 { low := false, n := .r3 }),
      ([0x79, 0x0C, 0x81, 0x27], .movWImm 0x8127#16 { ext := true, n := .r4 }),
      ([0x7A, 0x05, 0x81, 0x23, 0x45, 0x6C], .movLImm 0x8123456C#32 .r5),
      ([0x68, 0x56], .movBLdInd .r5 { low := false, n := .r6 }),
      ([0x69, 0x23], .movWLdInd .r2 { ext := false, n := .r3 }), ([0x01, 0x00, 0x69, 0x65], .movLLdInd .r6 .r5),
      ([0x6E, 0x26, 0x81, 0x2C], .movBLdD16 0x812C#16 .r2 { low := false, n := .r6 }),
      ([0x6F, 0x63, 0x81, 0x2D], .movWLdD16 0x812D#16 .r6 { ext := false, n := .r3 }),
      ([0x01, 0x00, 0x6F, 0x52, 0x81, 0x2E], .movLLdD16 0x812E#16 .r5 .r2),
      ([0x78, 0x20, 0x6A, 0x29, 0x00, 0x81, 0x23, 0x51], .movBLdD24 0x812351#24 .r2 { low := true, n := .r1 }),
      ([0x78, 0x60, 0x6B, 0x26, 0x00, 0x81, 0x23, 0x52], .movWLdD24 0x812352#24 .r6 { ext := false, n := .r6 }),
      ([0x01, 0x00, 0x78, 0x50, 0x6B, 0x22, 0x00, 0x81, 0x23, 0x53], .movLLdD24 0x812353#24 .r5 .r2),
      ([0x6C, 0x53], .movBLdInc .r5 { low := false, n := .r3 }),
      ([0x6D, 0x2C], .movWLdInc .r2 { ext := true, n := .r4 }), ([0x01, 0x00, 0x6D, 0x65], .movLLdInc .r6 .r5),
      ([0x26, 0x93], .movBLdA8 0x93#8 { low := false, n := .r6 }),
      ([0x6A, 0x03, 0x81, 0x36], .movBLdA16 0x8136#16 { low := false, n := .r3 }),
      ([0x6B, 0x0C, 0x81, 0x37], .movWLdA16 0x8137#16 { ext := true, n := .r4 }),
      ([0x01, 0x00, 0x6B, 0x02, 0x81, 0x38], .movLLdA16 0x8138#16 .r2),
      ([0x6A, 0x26, 0x00, 0x81, 0x23, 0x5B], .movBLdA24 0x81235B#24 { low := false, n := .r6 }),
      ([0x6B, 0x23, 0x00, 0x81, 0x23, 0x5C], .movWLdA24 0x81235C#24 { ext := false, n := .r3 })] := by decide

/-- Words written out from the encodings of spec/40_data_transfer.md. -/
theorem test_decode_data_transfer_2 : decodesTo
    [([0x01, 0x00, 0x6B, 0x22, 0x00, 0x81, 0x23, 0x5D], .movLLdA24 0x81235D#24 .r2),
      ([0x68, 0xEC], .movBStInd { low := true, n := .r4 } .r6),
      ([0x69, 0xD9], .movWStInd { ext := true, n := .r1 } .r5), ([0x01, 0x00, 0x69, 0xA5], .movLStInd .r5 .r2),
      ([0x6E, 0xD3, 0x81, 0x3F], .movBStD16 { low := false, n := .r3 } 0x813F#16 .r5),
      ([0x6F, 0xAC, 0x81, 0x40], .movWStD16 { ext := true, n := .r4 } 0x8140#16 .r2),
      ([0x01, 0x00, 0x6F, 0xE5, 0x81, 0x41], .movLStD16 .r5 0x8141#16 .r6),
      ([0x78, 0x50, 0x6A, 0xA6, 0x00, 0x81, 0x23, 0x64], .movBStD24 { low := false, n := .r6 } 0x812364#24 .r5),
      ([0x78, 0x20, 0x6B, 0xA3, 0x00, 0x81, 0x23, 0x65], .movWStD24 { ext := false, n := .r3 } 0x812365#24 .r2),
      ([0x01, 0x00, 0x78, 0xE0, 0x6B, 0xA5, 0x00, 0x81, 0x23, 0x66], .movLStD24 .r5 0x812366#24 .r6),
      ([0x6C, 0xE9], .movBStDec { low := true, n := .r1 } .r6),
      ([0x6D, 0xD6], .movWStDec { ext := false, n := .r6 } .r5), ([0x01, 0x00, 0x6D, 0xA5], .movLStDec .r5 .r2),
      ([0x3C, 0xA6], .movBStA8 { low := true, n := .r4 } 0xA6#8),
      ([0x6A, 0x89, 0x81, 0x49], .movBStA16 { low := true, n := .r1 } 0x8149#16),
      ([0x6B, 0x86, 0x81, 0x4A], .movWStA16 { ext := false, n := .r6 } 0x814A#16),
      ([0x01, 0x00, 0x6B, 0x82, 0x81, 0x4B], .movLStA16 .r2 0x814B#16),
      ([0x6A, 0xAC, 0x00, 0x81, 0x23, 0x6E], .movBStA24 { low := true, n := .r4 } 0x81236E#24),
      ([0x6B, 0xA9, 0x00, 0x81, 0x23, 0x6F], .movWStA24 { ext := true, n := .r1 } 0x81236F#24),
      ([0x01, 0x00, 0x6B, 0xA2, 0x00, 0x81, 0x23, 0x70], .movLStA24 .r2 0x812370#24),
      ([0x6A, 0x4C, 0x81, 0x4F], .movfpe 0x814F#16 { low := true, n := .r4 }),
      ([0x6A, 0xCC, 0x81, 0x50], .movtpe { low := true, n := .r4 } 0x8150#16),
      ([0x6D, 0x79], .popW { ext := true, n := .r1 }), ([0x01, 0x00, 0x6D, 0x76], .popL .r6)] := by decide

/-- Words written out from the encodings of spec/40_data_transfer.md. -/
theorem test_decode_data_transfer_3 : decodesTo
    [([0x6D, 0xF3], .pushW { ext := false, n := .r3 }), ([0x01, 0x00, 0x6D, 0xF2], .pushL .r2)] := by decide

/-- Words written out from the encodings of spec/41_arithmetic.md. -/
theorem test_decode_arithmetic_1 : decodesTo
    [([0x8C, 0x81], .addBImm 0x81#8 { low := true, n := .r4 }),
      ([0x08, 0xC9], .addBReg { low := true, n := .r4 } { low := true, n := .r1 }),
      ([0x79, 0x16, 0x81, 0x25], .addWImm 0x8125#16 { ext := false, n := .r6 }),
      ([0x09, 0x63], .addWReg { ext := false, n := .r6 } { ext := false, n := .r3 }),
      ([0x7A, 0x16, 0x81, 0x23, 0x45, 0x6B], .addLImm 0x8123456B#32 .r6), ([0x0A, 0xE5], .addLReg .r6 .r5),
      ([0x18, 0x96], .subBReg { low := true, n := .r1 } { low := false, n := .r6 }),
      ([0x79, 0x33, 0x81, 0x2A], .subWImm 0x812A#16 { ext := false, n := .r3 }),
      ([0x19, 0x3C], .subWReg { ext := false, n := .r3 } { ext := true, n := .r4 }),
      ([0x7A, 0x32, 0x81, 0x23, 0x45, 0x70], .subLImm 0x81234570#32 .r2), ([0x1A, 0xA6], .subLReg .r2 .r6),
      ([0x93, 0x8C], .addxImm 0x8C#8 { low := false, n := .r3 }),
      ([0x0E, 0x3C], .addxReg { low := false, n := .r3 } { low := true, n := .r4 }),
      ([0xB9, 0x8E], .subxImm 0x8E#8 { low := true, n := .r1 }),
      ([0x1E, 0x96], .subxReg { low := true, n := .r1 } { low := false, n := .r6 }),
      ([0x0A, 0x06], .incB { low := false, n := .r6 }), ([0x0B, 0x53], .incW1 { ext := false, n := .r3 }),
      ([0x0B, 0xDC], .incW2 { ext := true, n := .r4 }), ([0x0B, 0x75], .incL1 .r5), ([0x0B, 0xF2], .incL2 .r2),
      ([0x1A, 0x03], .decB { low := false, n := .r3 }), ([0x1B, 0x5C], .decW1 { ext := true, n := .r4 }),
      ([0x1B, 0xD9], .decW2 { ext := true, n := .r1 }), ([0x1B, 0x76], .decL1 .r6)] := by decide

/-- Words written out from the encodings of spec/41_arithmetic.md. -/
theorem test_decode_arithmetic_2 : decodesTo
    [([0x1B, 0xF5], .decL2 .r5), ([0x0B, 0x02], .adds1 .r2), ([0x0B, 0x86], .adds2 .r6), ([0x0B, 0x95], .adds4 .r5),
      ([0x1B, 0x02], .subs1 .r2), ([0x1B, 0x86], .subs2 .r6), ([0x1B, 0x95], .subs4 .r5),
      ([0x0F, 0x06], .daa { low := false, n := .r6 }), ([0x1F, 0x03], .das { low := false, n := .r3 }),
      ([0x50, 0xC9], .mulxuB { low := true, n := .r4 } { ext := true, n := .r1 }),
      ([0x52, 0x96], .mulxuW { ext := true, n := .r1 } .r6),
      ([0x01, 0xC0, 0x50, 0x63], .mulxsB { low := false, n := .r6 } { ext := false, n := .r3 }),
      ([0x01, 0xC0, 0x52, 0x32], .mulxsW { ext := false, n := .r3 } .r2),
      ([0x51, 0xC9], .divxuB { low := true, n := .r4 } { ext := true, n := .r1 }),
      ([0x53, 0x95], .divxuW { ext := true, n := .r1 } .r5),
      ([0x01, 0xD0, 0x51, 0x63], .divxsB { low := false, n := .r6 } { ext := false, n := .r3 }),
      ([0x01, 0xD0, 0x53, 0x36], .divxsW { ext := false, n := .r3 } .r6),
      ([0xA9, 0xAA], .cmpBImm 0xAA#8 { low := true, n := .r1 }),
      ([0x1C, 0x96], .cmpBReg { low := true, n := .r1 } { low := false, n := .r6 }),
      ([0x79, 0x23, 0x81, 0x4E], .cmpWImm 0x814E#16 { ext := false, n := .r3 }),
      ([0x1D, 0x3C], .cmpWReg { ext := false, n := .r3 } { ext := true, n := .r4 }),
      ([0x7A, 0x22, 0x81, 0x23, 0x45, 0x94], .cmpLImm 0x81234594#32 .r2), ([0x1F, 0xA6], .cmpLReg .r2 .r6),
      ([0x17, 0x86], .negB { low := false, n := .r6 })] := by decide

/-- Words written out from the encodings of spec/41_arithmetic.md. -/
theorem test_decode_arithmetic_3 : decodesTo
    [([0x17, 0x93], .negW { ext := false, n := .r3 }), ([0x17, 0xB2], .negL .r2),
      ([0x17, 0xD9], .extsW { ext := true, n := .r1 }), ([0x17, 0xF5], .extsL .r5),
      ([0x17, 0x53], .extuW { ext := false, n := .r3 }), ([0x17, 0x76], .extuL .r6)] := by decide

/-- Words written out from the encodings of spec/42_logic.md. -/
theorem test_decode_logic : decodesTo
    [([0xEC, 0x81], .andBImm 0x81#8 { low := true, n := .r4 }),
      ([0x16, 0xC9], .andBReg { low := true, n := .r4 } { low := true, n := .r1 }),
      ([0x79, 0x66, 0x81, 0x25], .andWImm 0x8125#16 { ext := false, n := .r6 }),
      ([0x66, 0x63], .andWReg { ext := false, n := .r6 } { ext := false, n := .r3 }),
      ([0x7A, 0x66, 0x81, 0x23, 0x45, 0x6B], .andLImm 0x8123456B#32 .r6),
      ([0x01, 0xF0, 0x66, 0x65], .andLReg .r6 .r5), ([0xC6, 0x87], .orBImm 0x87#8 { low := false, n := .r6 }),
      ([0x14, 0x63], .orBReg { low := false, n := .r6 } { low := false, n := .r3 }),
      ([0x79, 0x4C, 0x81, 0x2B], .orWImm 0x812B#16 { ext := true, n := .r4 }),
      ([0x64, 0xC9], .orWReg { ext := true, n := .r4 } { ext := true, n := .r1 }),
      ([0x7A, 0x46, 0x81, 0x23, 0x45, 0x71], .orLImm 0x81234571#32 .r6), ([0x01, 0xF0, 0x64, 0x65], .orLReg .r6 .r5),
      ([0xDC, 0x8D], .xorBImm 0x8D#8 { low := true, n := .r4 }),
      ([0x15, 0xC9], .xorBReg { low := true, n := .r4 } { low := true, n := .r1 }),
      ([0x79, 0x56, 0x81, 0x31], .xorWImm 0x8131#16 { ext := false, n := .r6 }),
      ([0x65, 0x63], .xorWReg { ext := false, n := .r6 } { ext := false, n := .r3 }),
      ([0x7A, 0x56, 0x81, 0x23, 0x45, 0x77], .xorLImm 0x81234577#32 .r6),
      ([0x01, 0xF0, 0x65, 0x65], .xorLReg .r6 .r5), ([0x17, 0x09], .notB { low := true, n := .r1 }),
      ([0x17, 0x16], .notW { ext := false, n := .r6 }), ([0x17, 0x36], .notL .r6)] := by decide

/-- Words written out from the encodings of spec/43_shift.md. -/
theorem test_decode_shift : decodesTo
    [([0x10, 0x83], .shalB { low := false, n := .r3 }), ([0x10, 0x9C], .shalW { ext := true, n := .r4 }),
      ([0x10, 0xB6], .shalL .r6), ([0x11, 0x86], .sharB { low := false, n := .r6 }),
      ([0x11, 0x93], .sharW { ext := false, n := .r3 }), ([0x11, 0xB6], .sharL .r6),
      ([0x10, 0x09], .shllB { low := true, n := .r1 }), ([0x10, 0x16], .shllW { ext := false, n := .r6 }),
      ([0x10, 0x36], .shllL .r6), ([0x11, 0x0C], .shlrB { low := true, n := .r4 }),
      ([0x11, 0x19], .shlrW { ext := true, n := .r1 }), ([0x11, 0x36], .shlrL .r6),
      ([0x12, 0x83], .rotlB { low := false, n := .r3 }), ([0x12, 0x9C], .rotlW { ext := true, n := .r4 }),
      ([0x12, 0xB6], .rotlL .r6), ([0x13, 0x86], .rotrB { low := false, n := .r6 }),
      ([0x13, 0x93], .rotrW { ext := false, n := .r3 }), ([0x13, 0xB6], .rotrL .r6),
      ([0x12, 0x09], .rotxlB { low := true, n := .r1 }), ([0x12, 0x16], .rotxlW { ext := false, n := .r6 }),
      ([0x12, 0x36], .rotxlL .r6), ([0x13, 0x0C], .rotxrB { low := true, n := .r4 }),
      ([0x13, 0x19], .rotxrW { ext := true, n := .r1 }), ([0x13, 0x36], .rotxrL .r6)] := by decide

/-- Words written out from the encodings of spec/44_bit_manipulation.md. -/
theorem test_decode_bit_manipulation_1 : decodesTo
    [([0x70, 0x6C], .bsetImmReg 0x6#3 { low := true, n := .r4 }), ([0x7D, 0x60, 0x70, 0x10], .bsetImmInd 0x1#3 .r6),
      ([0x7F, 0x83, 0x70, 0x30], .bsetImmAbs 0x3#3 0x83#8),
      ([0x60, 0x63], .bsetRegReg { low := false, n := .r6 } { low := false, n := .r3 }),
      ([0x7D, 0x60, 0x60, 0x30], .bsetRegInd { low := false, n := .r3 } .r6),
      ([0x7F, 0x86, 0x60, 0xC0], .bsetRegAbs { low := true, n := .r4 } 0x86#8),
      ([0x72, 0x66], .bclrImmReg 0x6#3 { low := false, n := .r6 }),
      ([0x7D, 0x60, 0x72, 0x10], .bclrImmInd 0x1#3 .r6), ([0x7F, 0x89, 0x72, 0x30], .bclrImmAbs 0x3#3 0x89#8),
      ([0x62, 0xC9], .bclrRegReg { low := true, n := .r4 } { low := true, n := .r1 }),
      ([0x7D, 0x60, 0x62, 0x90], .bclrRegInd { low := true, n := .r1 } .r6),
      ([0x7F, 0x8C, 0x62, 0x60], .bclrRegAbs { low := false, n := .r6 } 0x8C#8),
      ([0x71, 0x6C], .bnotImmReg 0x6#3 { low := true, n := .r4 }), ([0x7D, 0x60, 0x71, 0x10], .bnotImmInd 0x1#3 .r6),
      ([0x7F, 0x8F, 0x71, 0x30], .bnotImmAbs 0x3#3 0x8F#8),
      ([0x61, 0x63], .bnotRegReg { low := false, n := .r6 } { low := false, n := .r3 }),
      ([0x7D, 0x60, 0x61, 0x30], .bnotRegInd { low := false, n := .r3 } .r6),
      ([0x7F, 0x92, 0x61, 0xC0], .bnotRegAbs { low := true, n := .r4 } 0x92#8),
      ([0x73, 0x66], .btstImmReg 0x6#3 { low := false, n := .r6 }),
      ([0x7C, 0x60, 0x73, 0x10], .btstImmInd 0x1#3 .r6), ([0x7E, 0x95, 0x73, 0x30], .btstImmAbs 0x3#3 0x95#8),
      ([0x63, 0xC9], .btstRegReg { low := true, n := .r4 } { low := true, n := .r1 }),
      ([0x7C, 0x60, 0x63, 0x90], .btstRegInd { low := true, n := .r1 } .r6),
      ([0x7E, 0x98, 0x63, 0x60], .btstRegAbs { low := false, n := .r6 } 0x98#8)] := by decide

/-- Words written out from the encodings of spec/44_bit_manipulation.md. -/
theorem test_decode_bit_manipulation_2 : decodesTo
    [([0x76, 0x6C], .bandReg 0x6#3 { low := true, n := .r4 }), ([0x7C, 0x60, 0x76, 0x10], .bandInd 0x1#3 .r6),
      ([0x7E, 0x9B, 0x76, 0x30], .bandAbs 0x3#3 0x9B#8), ([0x76, 0xE3], .biandReg 0x6#3 { low := false, n := .r3 }),
      ([0x7C, 0x60, 0x76, 0x90], .biandInd 0x1#3 .r6), ([0x7E, 0x9E, 0x76, 0xB0], .biandAbs 0x3#3 0x9E#8),
      ([0x74, 0x66], .borReg 0x6#3 { low := false, n := .r6 }), ([0x7C, 0x60, 0x74, 0x10], .borInd 0x1#3 .r6),
      ([0x7E, 0xA1, 0x74, 0x30], .borAbs 0x3#3 0xA1#8), ([0x74, 0xE9], .biorReg 0x6#3 { low := true, n := .r1 }),
      ([0x7C, 0x60, 0x74, 0x90], .biorInd 0x1#3 .r6), ([0x7E, 0xA4, 0x74, 0xB0], .biorAbs 0x3#3 0xA4#8),
      ([0x75, 0x6C], .bxorReg 0x6#3 { low := true, n := .r4 }), ([0x7C, 0x60, 0x75, 0x10], .bxorInd 0x1#3 .r6),
      ([0x7E, 0xA7, 0x75, 0x30], .bxorAbs 0x3#3 0xA7#8), ([0x75, 0xE3], .bixorReg 0x6#3 { low := false, n := .r3 }),
      ([0x7C, 0x60, 0x75, 0x90], .bixorInd 0x1#3 .r6), ([0x7E, 0xAA, 0x75, 0xB0], .bixorAbs 0x3#3 0xAA#8),
      ([0x77, 0x66], .bldReg 0x6#3 { low := false, n := .r6 }), ([0x7C, 0x60, 0x77, 0x10], .bldInd 0x1#3 .r6),
      ([0x7E, 0xAD, 0x77, 0x30], .bldAbs 0x3#3 0xAD#8), ([0x77, 0xE9], .bildReg 0x6#3 { low := true, n := .r1 }),
      ([0x7C, 0x60, 0x77, 0x90], .bildInd 0x1#3 .r6), ([0x7E, 0xB0, 0x77, 0xB0], .bildAbs 0x3#3 0xB0#8)] := by decide

/-- Words written out from the encodings of spec/44_bit_manipulation.md. -/
theorem test_decode_bit_manipulation_3 : decodesTo
    [([0x67, 0x6C], .bstReg 0x6#3 { low := true, n := .r4 }), ([0x7D, 0x60, 0x67, 0x10], .bstInd 0x1#3 .r6),
      ([0x7F, 0xB3, 0x67, 0x30], .bstAbs 0x3#3 0xB3#8), ([0x67, 0xE3], .bistReg 0x6#3 { low := false, n := .r3 }),
      ([0x7D, 0x60, 0x67, 0x90], .bistInd 0x1#3 .r6), ([0x7F, 0xB6, 0x67, 0xB0], .bistAbs 0x3#3 0xB6#8)] := by decide

/-- Words written out from the encodings of spec/45_branch.md. -/
theorem test_decode_branch_1 : decodesTo
    [([0x40, 0x81], .bra (.d8 0x81#8)), ([0x41, 0x82], .brn (.d8 0x82#8)), ([0x42, 0x83], .bhi (.d8 0x83#8)),
      ([0x43, 0x84], .bls (.d8 0x84#8)), ([0x44, 0x85], .bcc (.d8 0x85#8)), ([0x45, 0x86], .bcs (.d8 0x86#8)),
      ([0x46, 0x87], .bne (.d8 0x87#8)), ([0x47, 0x88], .beq (.d8 0x88#8)), ([0x48, 0x89], .bvc (.d8 0x89#8)),
      ([0x49, 0x8A], .bvs (.d8 0x8A#8)), ([0x4A, 0x8B], .bpl (.d8 0x8B#8)), ([0x4B, 0x8C], .bmi (.d8 0x8C#8)),
      ([0x4C, 0x8D], .bge (.d8 0x8D#8)), ([0x4D, 0x8E], .blt (.d8 0x8E#8)), ([0x4E, 0x8F], .bgt (.d8 0x8F#8)),
      ([0x4F, 0x90], .ble (.d8 0x90#8)), ([0x58, 0x00, 0x81, 0x33], .bra (.d16 0x8133#16)),
      ([0x58, 0x10, 0x81, 0x34], .brn (.d16 0x8134#16)), ([0x58, 0x20, 0x81, 0x35], .bhi (.d16 0x8135#16)),
      ([0x58, 0x30, 0x81, 0x36], .bls (.d16 0x8136#16)), ([0x58, 0x40, 0x81, 0x37], .bcc (.d16 0x8137#16)),
      ([0x58, 0x50, 0x81, 0x38], .bcs (.d16 0x8138#16)), ([0x58, 0x60, 0x81, 0x39], .bne (.d16 0x8139#16)),
      ([0x58, 0x70, 0x81, 0x3A], .beq (.d16 0x813A#16))] := by decide

/-- Words written out from the encodings of spec/45_branch.md. -/
theorem test_decode_branch_2 : decodesTo
    [([0x58, 0x80, 0x81, 0x3B], .bvc (.d16 0x813B#16)), ([0x58, 0x90, 0x81, 0x3C], .bvs (.d16 0x813C#16)),
      ([0x58, 0xA0, 0x81, 0x3D], .bpl (.d16 0x813D#16)), ([0x58, 0xB0, 0x81, 0x3E], .bmi (.d16 0x813E#16)),
      ([0x58, 0xC0, 0x81, 0x3F], .bge (.d16 0x813F#16)), ([0x58, 0xD0, 0x81, 0x40], .blt (.d16 0x8140#16)),
      ([0x58, 0xE0, 0x81, 0x41], .bgt (.d16 0x8141#16)), ([0x58, 0xF0, 0x81, 0x42], .ble (.d16 0x8142#16)),
      ([0x59, 0x60], .jmpInd .r6), ([0x5A, 0x81, 0x23, 0x66], .jmpAbs 0x812366#24), ([0x5B, 0xA3], .jmpMem 0xA3#8),
      ([0x55, 0xA4], .bsr (.d8 0xA4#8)), ([0x5C, 0x00, 0x81, 0x47], .bsr (.d16 0x8147#16)),
      ([0x5D, 0x20], .jsrInd .r2), ([0x5E, 0x81, 0x23, 0x6B], .jsrAbs 0x81236B#24), ([0x5F, 0xA8], .jsrMem 0xA8#8),
      ([0x54, 0x70], .rts)] := by decide

/-- Words written out from the encodings of spec/46_system_control.md. -/
theorem test_decode_system_control_1 : decodesTo
    [([0x56, 0x70], .rte), ([0x57, 0x00], .trapa0), ([0x57, 0x10], .trapa1), ([0x57, 0x20], .trapa2),
      ([0x57, 0x30], .trapa3), ([0x01, 0x80], .sleep), ([0x07, 0x84], .ldcBImm 0x84#8),
      ([0x03, 0x03], .ldcBReg { low := false, n := .r3 }), ([0x01, 0x40, 0x69, 0x60], .ldcWInd .r6),
      ([0x01, 0x40, 0x6F, 0x20, 0x81, 0x29], .ldcWD16 0x8129#16 .r2),
      ([0x01, 0x40, 0x78, 0x60, 0x6B, 0x20, 0x00, 0x81, 0x23, 0x4C], .ldcWD24 0x81234C#24 .r6),
      ([0x01, 0x40, 0x6D, 0x60], .ldcWInc .r6), ([0x01, 0x40, 0x6B, 0x00, 0x81, 0x2C], .ldcWA16 0x812C#16),
      ([0x01, 0x40, 0x6B, 0x20, 0x00, 0x81, 0x23, 0x4F], .ldcWA24 0x81234F#24),
      ([0x02, 0x06], .stcBReg { low := false, n := .r6 }), ([0x01, 0x40, 0x69, 0xD0], .stcWInd .r5),
      ([0x01, 0x40, 0x6F, 0xE0, 0x81, 0x30], .stcWD16 0x8130#16 .r6),
      ([0x01, 0x40, 0x78, 0x50, 0x6B, 0xA0, 0x00, 0x81, 0x23, 0x53], .stcWD24 0x812353#24 .r5),
      ([0x01, 0x40, 0x6D, 0xD0], .stcWDec .r5), ([0x01, 0x40, 0x6B, 0x80, 0x81, 0x33], .stcWA16 0x8133#16),
      ([0x01, 0x40, 0x6B, 0xA0, 0x00, 0x81, 0x23, 0x56], .stcWA24 0x812356#24), ([0x06, 0x93], .andc 0x93#8),
      ([0x04, 0x94], .orc 0x94#8), ([0x05, 0x95], .xorc 0x95#8)] := by decide

/-- Words written out from the encodings of spec/46_system_control.md. -/
theorem test_decode_system_control_2 : decodesTo
    [([0x00, 0x00], .nop)] := by decide

/-- Words written out from the encodings of spec/47_block_transfer.md. -/
theorem test_decode_block_transfer : decodesTo
    [([0x7B, 0x5C, 0x59, 0x8F], .eepmovB), ([0x7B, 0xD4, 0x59, 0x8F], .eepmovW)] := by decide

/-! ## The reset state -/

theorem test_reset_ccr : State.reset.ccr.toByte = 0x80#8 := by decide
theorem test_reset_memory_wf : State.reset.mem.wf := by decide
theorem test_reset_pc : State.reset.pc = entryAt 0#24 State.reset := by decide

/-- The host's two questions on one word of the table: MOV.B R1L,R2H. -/
theorem test_decodeTableWord : decodeTableWord 16 0x0C92 =
    some (.movBRR { low := true, n := .r1 } { low := false, n := .r2 }) := by decide
theorem test_withFetchWord : (State.reset.withFetchWord 16 0x0C92).fetch =
    some (.movBRR { low := true, n := .r1 } { low := false, n := .r2 }) := by decide

/-! ## Single steps, with the values of spec/95_test_vectors.md and spec/96_test_vectors_derived.md -/

/-- T20.1, `MOV.B R0L,R1H` (R122, R121). -/
theorem test_T20_1_movBRR :
    shows (run [0x0C, 0x81] (before 0x001000 0x23 [(.r0, 0x00000080)] []))
      0x001002 (some 0x29) [(.r1, 0x00008000)] [] = true := by decide

/-- T20.2, `MOV.W R0,E1` (R123). -/
theorem test_T20_2_movWRR :
    shows (run [0x0D, 0x09] (before 0x001000 0x0A [(.r1, 0x12345678)] []))
      0x001002 (some 0x04) [(.r1, 0x00005678)] [] = true := by decide

/-- T20.3, `MOV.L ER1,ER2` (R124). -/
theorem test_T20_3_movLRR :
    shows (run [0x0F, 0x92] (before 0x001000 0x0F [(.r1, 0x7FFFFFFF)] []))
      0x001002 (some 0x01) [(.r2, 0x7FFFFFFF)] [] = true := by decide

/-- T20.4, `MOV.B #00,R3L` (R125). -/
theorem test_T20_4_movBImm :
    shows (run [0xFB, 0x00] (before 0x001000 0x08 [(.r3, 0xFFFFFFFF)] []))
      0x001002 (some 0x04) [(.r3, 0xFFFFFF00)] [] = true := by decide

/-- T20.5, `MOV.W #8000,E3` (R126). -/
theorem test_T20_5_movWImm :
    shows (run [0x79, 0x0B, 0x80, 0x00] (before 0x001000 0x02 [] []))
      0x001004 (some 0x08) [(.r3, 0x80000000)] [] = true := by decide

/-- T20.6, `MOV.L #12345678,ER4` (R127, R22). -/
theorem test_T20_6_movLImm :
    shows (run [0x7A, 0x04, 0x12, 0x34, 0x56, 0x78] (before 0x001000 0x00 [] []))
      0x001006 (some 0x00) [(.r4, 0x12345678)] [] = true := by decide

/-- T20.7, `MOV.B @ER1,R0L` (R128). -/
theorem test_T20_7_movBLdInd :
    shows (run [0x68, 0x18] (before 0x001000 0x00 [(.r1, 0x00002000)] [(0x002000, 0x9C)]))
      0x001002 (some 0x08) [(.r0, 0x0000009C), (.r1, 0x00002000)] [] = true := by decide

/-- T20.8, `MOV.W @(FFFE:16,ER1),R0` (R129, R96). -/
theorem test_T20_8_movWLdD16 :
    shows (run [0x6F, 0x10, 0xFF, 0xFE] (before 0x001000 0x00 [(.r1, 0x00002002)] [(0x002000, 0x12), (0x002001, 0x34)]))
      0x001004 (some 0x00) [(.r0, 0x00001234), (.r1, 0x00002002)] [] = true := by decide

/-- T20.9, `MOV.B @(0010:16,ER1),R0L` (R129, R96). -/
theorem test_T20_9_movBLdD16 :
    shows (run [0x6E, 0x18, 0x00, 0x10] (before 0x001000 0x00 [(.r1, 0xFF002000)] [(0x002010, 0x5A)]))
      0x001004 none [(.r0, 0x0000005A), (.r1, 0xFF002000)] [] = true := by decide

/-- T20.10, `MOV.L @(FFFFFC:24,ER1),ER0` (R130, R96). -/
theorem test_T20_10_movLLdD24 :
    shows (run [0x01, 0x00, 0x78, 0x10, 0x6B, 0x20, 0x00, 0xFF, 0xFF, 0xFC] (before 0x001000 0x00 [(.r1, 0x00002004)] [(0x002000, 0x80), (0x002001, 0x00), (0x002002, 0x00), (0x002003, 0x01)]))
      0x00100A (some 0x08) [(.r0, 0x80000001)] [] = true := by decide

/-- T20.11, `MOV.B @ER1+,R0L` (R131, R97). -/
theorem test_T20_11_movBLdInc :
    shows (run [0x6C, 0x18] (before 0x001000 0x00 [(.r1, 0x00002000)] [(0x002000, 0x11), (0x002001, 0x22), (0x002002, 0x33), (0x002003, 0x44)]))
      0x001002 none [(.r0, 0x00000011), (.r1, 0x00002001)] [] = true := by decide

/-- T20.12, `MOV.W @ER1+,R0` (R131, R97). -/
theorem test_T20_12_movWLdInc :
    shows (run [0x6D, 0x10] (before 0x001000 0x00 [(.r1, 0x00002000)] [(0x002000, 0x11), (0x002001, 0x22), (0x002002, 0x33), (0x002003, 0x44)]))
      0x001002 none [(.r0, 0x00001122), (.r1, 0x00002002)] [] = true := by decide

/-- T20.13, `MOV.L @ER1+,ER0` (R131, R97). -/
theorem test_T20_13_movLLdInc :
    shows (run [0x01, 0x00, 0x6D, 0x10] (before 0x001000 0x00 [(.r1, 0x00002000)] [(0x002000, 0x11), (0x002001, 0x22), (0x002002, 0x33), (0x002003, 0x44)]))
      0x001004 none [(.r0, 0x11223344), (.r1, 0x00002004)] [] = true := by decide

/-- T20.18, `MOV.L @002000:24,ER0` (R134). -/
theorem test_T20_18_movLLdA24 :
    shows (run [0x01, 0x00, 0x6B, 0x20, 0x00, 0x00, 0x20, 0x00] (before 0x001000 0x00 [] [(0x002000, 0x00), (0x002001, 0x00), (0x002002, 0x00), (0x002003, 0x00)]))
      0x001008 (some 0x04) [(.r0, 0x00000000)] [] = true := by decide

/-- T20.19, `MOV.B R0L,@ER1` (R135). -/
theorem test_T20_19_movBStInd :
    shows (run [0x68, 0x98] (before 0x001000 0x00 [(.r0, 0x000000EE), (.r1, 0x00002000)] []))
      0x001002 (some 0x08) [] [(0x002000, 0xEE), (0x002001, 0x00)] = true := by decide

/-- T20.20, `MOV.W R0,@(0004:16,ER1)` (R136). -/
theorem test_T20_20_movWStD16 :
    shows (run [0x6F, 0x90, 0x00, 0x04] (before 0x001000 0x00 [(.r0, 0x00001234), (.r1, 0x00002000)] []))
      0x001004 (some 0x00) [] [(0x002004, 0x12), (0x002005, 0x34)] = true := by decide

/-- T20.21, `MOV.L ER0,@(000008:24,ER1)` (R137). -/
theorem test_T20_21_movLStD24 :
    shows (run [0x01, 0x00, 0x78, 0x90, 0x6B, 0xA0, 0x00, 0x00, 0x00, 0x08] (before 0x001000 0x00 [(.r0, 0x89ABCDEF), (.r1, 0x00002000)] []))
      0x00100A (some 0x08) [] [(0x002008, 0x89), (0x002009, 0xAB), (0x00200A, 0xCD), (0x00200B, 0xEF)] = true := by decide

/-- T20.22, `MOV.B R0L,@-ER1` (R138, R98). -/
theorem test_T20_22_movBStDec :
    shows (run [0x6C, 0x98] (before 0x001000 0x00 [(.r0, 0x00000001), (.r1, 0x00002000)] []))
      0x001002 none [(.r1, 0x00001FFF)] [(0x001FFE, 0x00), (0x001FFF, 0x01)] = true := by decide

/-- T20.23, `MOV.L ER0,@-ER1` (R138, R98). -/
theorem test_T20_23_movLStDec :
    shows (run [0x01, 0x00, 0x6D, 0x90] (before 0x001000 0x00 [(.r0, 0x01020304), (.r1, 0x00002000)] []))
      0x001004 none [(.r1, 0x00001FFC)] [(0x001FFC, 0x01), (0x001FFD, 0x02), (0x001FFE, 0x03), (0x001FFF, 0x04)] = true := by decide

/-- T20.24, `MOV.B R0L,@80:8` (R139). -/
theorem test_T20_24_movBStA8 :
    shows (run [0x38, 0x80] (before 0x001000 0x00 [(.r0, 0x00000042)] []))
      0x001002 none [] [(0xFFFF80, 0x42)] = true := by decide

/-- T20.25, `MOV.W R0,@F000:16` (R140, R99). -/
theorem test_T20_25_movWStA16 :
    shows (run [0x6B, 0x80, 0xF0, 0x00] (before 0x001000 0x00 [(.r0, 0x0000BEEF)] []))
      0x001004 none [] [(0x00F000, 0x00), (0x00F001, 0x00), (0xFFF000, 0xBE), (0xFFF001, 0xEF)] = true := by decide

/-- T20.26, `MOV.L ER0,@012344:24` (R141). -/
theorem test_T20_26_movLStA24 :
    shows (run [0x01, 0x00, 0x6B, 0xA0, 0x00, 0x01, 0x23, 0x44] (before 0x001000 0x00 [(.r0, 0xCAFEF00D)] []))
      0x001008 none [] [(0x012344, 0xCA), (0x012345, 0xFE), (0x012346, 0xF0), (0x012347, 0x0D)] = true := by decide

/-- T20.27, `POP.W R1` (R150). -/
theorem test_T20_27_popW :
    shows (run [0x6D, 0x71] (before 0x001000 0x00 [(.r7, 0x00FFFEFE)] [(0xFFFEFE, 0x12), (0xFFFEFF, 0x34)]))
      0x001002 (some 0x00) [(.r1, 0x00001234), (.r7, 0x00FFFF00)] [] = true := by decide

/-- T20.28, `POP.L ER2` (R151). -/
theorem test_T20_28_popL :
    shows (run [0x01, 0x00, 0x6D, 0x72] (before 0x001000 0x00 [(.r7, 0x00FFFEFC)] [(0xFFFEFC, 0x80), (0xFFFEFD, 0x22), (0xFFFEFE, 0x33), (0xFFFEFF, 0x44)]))
      0x001004 (some 0x08) [(.r2, 0x80223344), (.r7, 0x00FFFF00)] [] = true := by decide

/-- T20.29, `PUSH.W R1` (R152). -/
theorem test_T20_29_pushW :
    shows (run [0x6D, 0xF1] (before 0x001000 0x0B [(.r7, 0x00FFFF00)] []))
      0x001002 (some 0x05) [(.r7, 0x00FFFEFE)] [(0xFFFEFE, 0x00), (0xFFFEFF, 0x00)] = true := by decide

/-- T20.30, `PUSH.L ER2` (R153). -/
theorem test_T20_30_pushL :
    shows (run [0x01, 0x00, 0x6D, 0xF2] (before 0x001000 0x00 [(.r2, 0x11223344), (.r7, 0x00FFFF00)] []))
      0x001004 (some 0x00) [(.r7, 0x00FFFEFC)] [(0xFFFEFC, 0x11), (0xFFFEFD, 0x22), (0xFFFEFE, 0x33), (0xFFFEFF, 0x44)] = true := by decide

/-- T20.33, `MOVFPE @F000:16,R0L` (R148). -/
theorem test_T20_33_movfpe :
    shows (run [0x6A, 0x48, 0xF0, 0x00] (before 0x001000 0x03 [] [(0xFFF000, 0x81)]))
      0x001004 (some 0x09) [(.r0, 0x00000081)] [] = true := by decide

/-- T20.34, `MOVTPE R0L,@1100:16` (R149). -/
theorem test_T20_34_movtpe :
    shows (run [0x6A, 0xC8, 0x11, 0x00] (before 0x001000 0x00 [] [(0x001100, 0xFF)]))
      0x001004 (some 0x04) [] [(0x001100, 0x00)] = true := by decide

/-- T20.38, `MOV.B @80:8,R0L` (R132, R99). -/
theorem test_T20_38_movBLdA8 :
    shows (run [0x28, 0x80] (beforeN 0x001000 0x00 [] [(0x00FF80, 0x99)]))
      0x001002 none [(.r0, 0x00000099)] [] = true := by decide

/-- T21.1, `ADD.B #C8,R0L` (R161, R160). -/
theorem test_T21_1_addBImm :
    shows (run [0x88, 0xC8] (before 0x001000 0x80 [(.r0, 0x0000003A)] []))
      0x001002 (some 0xA1) [(.r0, 0x00000002)] [] = true := by decide

/-- T21.5, `ADD.W #0001,R0` (R162). -/
theorem test_T21_5_addWImm :
    shows (run [0x79, 0x10, 0x00, 0x01] (before 0x001000 0x00 [(.r0, 0x00000FFF)] []))
      0x001004 (some 0x20) [(.r0, 0x00001000)] [] = true := by decide

/-- T21.8, `ADD.L #00000001,ER0` (R163). -/
theorem test_T21_8_addLImm :
    shows (run [0x7A, 0x10, 0x00, 0x00, 0x00, 0x01] (before 0x001000 0x00 [(.r0, 0x7FFFFFFF)] []))
      0x001006 (some 0x2A) [(.r0, 0x80000000)] [] = true := by decide

/-- T21.11, `SUB.B R1H,R0H` (R164). -/
theorem test_T21_11_subBReg :
    shows (run [0x18, 0x10] (before 0x001000 0x00 [(.r0, 0x00001000), (.r1, 0x00000100)] []))
      0x001002 (some 0x20) [(.r0, 0x00000F00)] [] = true := by decide

/-- T21.15, `SUB.W #0001,R0` (R165). -/
theorem test_T21_15_subWImm :
    shows (run [0x79, 0x30, 0x00, 0x01] (before 0x001000 0x00 [(.r0, 0x00001000)] []))
      0x001004 (some 0x20) [(.r0, 0x00000FFF)] [] = true := by decide

/-- T21.17, `SUB.L #00000001,ER0` (R166). -/
theorem test_T21_17_subLImm :
    shows (run [0x7A, 0x30, 0x00, 0x00, 0x00, 0x01] (before 0x001000 0x00 [(.r0, 0x80000000)] []))
      0x001006 (some 0x22) [(.r0, 0x7FFFFFFF)] [] = true := by decide

/-- T21.19, `ADDX #00,R0L` (R167). -/
theorem test_T21_19_addxImm :
    shows (run [0x98, 0x00] (before 0x001000 0x05 [(.r0, 0x000000FF)] []))
      0x001002 (some 0x25) [(.r0, 0x00000000)] [] = true := by decide

/-- T21.23, `SUBX #00,R0L` (R168). -/
theorem test_T21_23_subxImm :
    shows (run [0xB8, 0x00] (before 0x001000 0x05 [] []))
      0x001002 (some 0x29) [(.r0, 0x000000FF)] [] = true := by decide

/-- T21.27, `INC.B R0L` (R169). -/
theorem test_T21_27_incB :
    shows (run [0x0A, 0x08] (before 0x001000 0x21 [(.r0, 0x000000FF)] []))
      0x001002 (some 0x25) [(.r0, 0x00000000)] [] = true := by decide

/-- T21.28, `INC.W #2,R0` (R170). -/
theorem test_T21_28_incW2 :
    shows (run [0x0B, 0xD0] (before 0x001000 0x00 [(.r0, 0x1234FFFF)] []))
      0x001002 (some 0x00) [(.r0, 0x12340001)] [] = true := by decide

/-- T21.29, `INC.L #1,ER0` (R171). -/
theorem test_T21_29_incL1 :
    shows (run [0x0B, 0x70] (before 0x001000 0x00 [(.r0, 0xFFFFFFFF)] []))
      0x001002 (some 0x04) [(.r0, 0x00000000)] [] = true := by decide

/-- T21.30, `DEC.B R0L` (R172). -/
theorem test_T21_30_decB :
    shows (run [0x1A, 0x08] (before 0x001000 0x00 [] []))
      0x001002 (some 0x08) [(.r0, 0x000000FF)] [] = true := by decide

/-- T21.32, `DEC.W #2,E0` (R173). -/
theorem test_T21_32_decW2 :
    shows (run [0x1B, 0xD8] (before 0x001000 0x00 [(.r0, 0x0001FFFF)] []))
      0x001002 (some 0x08) [(.r0, 0xFFFFFFFF)] [] = true := by decide

/-- T21.33, `DEC.L #2,ER0` (R174). -/
theorem test_T21_33_decL2 :
    shows (run [0x1B, 0xF0] (before 0x001000 0x00 [(.r0, 0x00000002)] []))
      0x001002 (some 0x04) [(.r0, 0x00000000)] [] = true := by decide

/-- T21.34, `ADDS #1,ER0` (R175). -/
theorem test_T21_34_adds1 :
    shows (run [0x0B, 0x00] (before 0x001000 0x0A [(.r0, 0xFFFFFFFF)] []))
      0x001002 (some 0x0A) [(.r0, 0x00000000)] [] = true := by decide

/-- T21.37, `SUBS #1,ER0` (R176). -/
theorem test_T21_37_subs1 :
    shows (run [0x1B, 0x00] (before 0x001000 0x05 [] []))
      0x001002 (some 0x05) [(.r0, 0xFFFFFFFF)] [] = true := by decide

/-- T21.40, `MULXU.B R0L,R1` (R179). -/
theorem test_T21_40_mulxuB :
    shows (run [0x50, 0x81] (before 0x001000 0x0F [(.r0, 0x000000FF), (.r1, 0x0000AAFF)] []))
      0x001002 (some 0x0F) [(.r1, 0x0000FE01)] [] = true := by decide

/-- T21.41, `MULXU.W R0,ER1` (R180). -/
theorem test_T21_41_mulxuW :
    shows (run [0x52, 0x01] (before 0x001000 0x0F [(.r0, 0x0000FFFF), (.r1, 0xAAAAFFFF)] []))
      0x001002 (some 0x0F) [(.r1, 0xFFFE0001)] [] = true := by decide

/-- T21.43, `MULXS.B R0L,R1` (R181). -/
theorem test_T21_43_mulxsB :
    shows (run [0x01, 0xC0, 0x50, 0x81] (before 0x001000 0x03 [(.r0, 0x00000080), (.r1, 0x000012FF)] []))
      0x001004 (some 0x03) [(.r1, 0x00000080)] [] = true := by decide

/-- T21.46, `MULXS.W R0,ER1` (R182). -/
theorem test_T21_46_mulxsW :
    shows (run [0x01, 0xC0, 0x52, 0x01] (before 0x001000 0x00 [(.r0, 0x00008000), (.r1, 0xFFFF8000)] []))
      0x001004 (some 0x00) [(.r1, 0x40000000)] [] = true := by decide

/-- T21.48, `DIVXU.B R0L,R1` (R183). -/
theorem test_T21_48_divxuB :
    shows (run [0x51, 0x81] (before 0x001000 0x0F [(.r0, 0x00000007), (.r1, 0x00000064)] []))
      0x001002 (some 0x03) [(.r1, 0x0000020E)] [] = true := by decide

/-- T21.53, `DIVXU.W R0,ER1` (R184). -/
theorem test_T21_53_divxuW :
    shows (run [0x53, 0x01] (before 0x001000 0x00 [(.r0, 0x000003E8), (.r1, 0x000F4247)] []))
      0x001002 (some 0x00) [(.r1, 0x000703E8)] [] = true := by decide

/-- T21.56, `DIVXS.B R0L,R1` (R185). -/
theorem test_T21_56_divxsB :
    shows (run [0x01, 0xD0, 0x51, 0x81] (before 0x001000 0x07 [(.r0, 0x00000002), (.r1, 0x0000FFF9)] []))
      0x001004 (some 0x0B) [(.r1, 0x0000FFFD)] [] = true := by decide

/-- T21.63, `DIVXS.W R0,ER1` (R186). -/
theorem test_T21_63_divxsW :
    shows (run [0x01, 0xD0, 0x53, 0x01] (before 0x001000 0x00 [(.r0, 0x0000FC18), (.r1, 0x000F4247)] []))
      0x001004 (some 0x08) [(.r1, 0x0007FC18)] [] = true := by decide

/-- T21.66, `CMP.B #05,R0L` (R188). -/
theorem test_T21_66_cmpBImm :
    shows (run [0xA8, 0x05] (before 0x001000 0x09 [(.r0, 0x00000005)] []))
      0x001002 (some 0x04) [(.r0, 0x00000005)] [] = true := by decide

/-- T21.68, `CMP.W #8000,R0` (R189). -/
theorem test_T21_68_cmpWImm :
    shows (run [0x79, 0x20, 0x80, 0x00] (before 0x001000 0x00 [(.r0, 0x00007FFF)] []))
      0x001004 (some 0x0B) [(.r0, 0x00007FFF)] [] = true := by decide

/-- T21.70, `CMP.L #00000001,ER0` (R190). -/
theorem test_T21_70_cmpLImm :
    shows (run [0x7A, 0x20, 0x00, 0x00, 0x00, 0x01] (before 0x001000 0x00 [(.r0, 0x80000000)] []))
      0x001006 (some 0x22) [(.r0, 0x80000000)] [] = true := by decide

/-- T21.72, `NEG.B R0L` (R191). -/
theorem test_T21_72_negB :
    shows (run [0x17, 0x88] (before 0x001000 0x00 [(.r0, 0x00000001)] []))
      0x001002 (some 0x29) [(.r0, 0x000000FF)] [] = true := by decide

/-- T21.74, `NEG.W R0` (R192). -/
theorem test_T21_74_negW :
    shows (run [0x17, 0x90] (before 0x001000 0x00 [(.r0, 0x00000010)] []))
      0x001002 (some 0x29) [(.r0, 0x0000FFF0)] [] = true := by decide

/-- T21.75, `NEG.L ER0` (R193). -/
theorem test_T21_75_negL :
    shows (run [0x17, 0xB0] (before 0x001000 0x00 [(.r0, 0xFFFFFFFF)] []))
      0x001002 (some 0x21) [(.r0, 0x00000001)] [] = true := by decide

/-- T21.76, `EXTS.W R0` (R194). -/
theorem test_T21_76_extsW :
    shows (run [0x17, 0xD0] (before 0x001000 0x23 [(.r0, 0x12340080)] []))
      0x001002 (some 0x29) [(.r0, 0x1234FF80)] [] = true := by decide

/-- T21.78, `EXTS.L ER0` (R195). -/
theorem test_T21_78_extsL :
    shows (run [0x17, 0xF0] (before 0x001000 0x00 [(.r0, 0x12348000)] []))
      0x001002 (some 0x08) [(.r0, 0xFFFF8000)] [] = true := by decide

/-- T21.80, `EXTU.W R0` (R196). -/
theorem test_T21_80_extuW :
    shows (run [0x17, 0x50] (before 0x001000 0x0B [(.r0, 0x0000FF80)] []))
      0x001002 (some 0x01) [(.r0, 0x00000080)] [] = true := by decide

/-- T21.82, `EXTU.L ER0` (R197). -/
theorem test_T21_82_extuL :
    shows (run [0x17, 0x70] (before 0x001000 0x08 [(.r0, 0xFFFF8000)] []))
      0x001002 (some 0x00) [(.r0, 0x00008000)] [] = true := by decide

/-- T22.1, `AND.B #0F,R0L` (R221, R220). -/
theorem test_T22_1_andBImm :
    shows (run [0xE8, 0x0F] (before 0x001000 0xA3 [(.r0, 0x000000F0)] []))
      0x001002 (some 0xA5) [(.r0, 0x00000000)] [] = true := by decide

/-- T22.3, `AND.W #FF00,R0` (R222). -/
theorem test_T22_3_andWImm :
    shows (run [0x79, 0x60, 0xFF, 0x00] (before 0x001000 0x00 [(.r0, 0xFFFF1234)] []))
      0x001004 (some 0x00) [(.r0, 0xFFFF1200)] [] = true := by decide

/-- T22.5, `AND.L #00FFFFFF,ER0` (R223). -/
theorem test_T22_5_andLImm :
    shows (run [0x7A, 0x60, 0x00, 0xFF, 0xFF, 0xFF] (before 0x001000 0x00 [(.r0, 0x12345678)] []))
      0x001006 (some 0x00) [(.r0, 0x00345678)] [] = true := by decide

/-- T22.7, `OR.B #80,R0L` (R224). -/
theorem test_T22_7_orBImm :
    shows (run [0xC8, 0x80] (before 0x001000 0x23 [(.r0, 0x00000001)] []))
      0x001002 (some 0x29) [(.r0, 0x00000081)] [] = true := by decide

/-- T22.9, `OR.W #00FF,R0` (R225). -/
theorem test_T22_9_orWImm :
    shows (run [0x79, 0x40, 0x00, 0xFF] (before 0x001000 0x00 [(.r0, 0x00001200)] []))
      0x001004 (some 0x00) [(.r0, 0x000012FF)] [] = true := by decide

/-- T22.11, `OR.L #80000000,ER0` (R226). -/
theorem test_T22_11_orLImm :
    shows (run [0x7A, 0x40, 0x80, 0x00, 0x00, 0x00] (before 0x001000 0x00 [(.r0, 0x00000001)] []))
      0x001006 (some 0x08) [(.r0, 0x80000001)] [] = true := by decide

/-- T22.13, `XOR.B #FF,R0L` (R227). -/
theorem test_T22_13_xorBImm :
    shows (run [0xD8, 0xFF] (before 0x001000 0x23 [(.r0, 0x00000055)] []))
      0x001002 (some 0x29) [(.r0, 0x000000AA)] [] = true := by decide

/-- T22.15, `XOR.W #FFFF,R0` (R228). -/
theorem test_T22_15_xorWImm :
    shows (run [0x79, 0x50, 0xFF, 0xFF] (before 0x001000 0x00 [(.r0, 0x00007FFF)] []))
      0x001004 (some 0x08) [(.r0, 0x00008000)] [] = true := by decide

/-- T22.17, `XOR.L #FFFFFFFF,ER0` (R229). -/
theorem test_T22_17_xorLImm :
    shows (run [0x7A, 0x50, 0xFF, 0xFF, 0xFF, 0xFF] (before 0x001000 0x00 [(.r0, 0x0000FFFF)] []))
      0x001006 (some 0x08) [(.r0, 0xFFFF0000)] [] = true := by decide

/-- T22.19, `NOT.B R0L` (R230). -/
theorem test_T22_19_notB :
    shows (run [0x17, 0x08] (before 0x001000 0x23 [(.r0, 0x000000FF)] []))
      0x001002 (some 0x25) [(.r0, 0x00000000)] [] = true := by decide

/-- T22.20, `NOT.W R0` (R231). -/
theorem test_T22_20_notW :
    shows (run [0x17, 0x10] (before 0x001000 0x00 [(.r0, 0xAAAA00FF)] []))
      0x001002 (some 0x08) [(.r0, 0xAAAAFF00)] [] = true := by decide

/-- T22.21, `NOT.L ER0` (R232). -/
theorem test_T22_21_notL :
    shows (run [0x17, 0x30] (before 0x001000 0x00 [(.r0, 0x7FFFFFFF)] []))
      0x001002 (some 0x08) [(.r0, 0x80000000)] [] = true := by decide

/-- T23.1, `SHAL.B R0L` (R241). -/
theorem test_T23_1_shalB :
    shows (run [0x10, 0x88] (before 0x001000 0x20 [(.r0, 0x00000081)] []))
      0x001002 (some 0x23) [(.r0, 0x00000002)] [] = true := by decide

/-- T23.2, `SHAL.W R0` (R241). -/
theorem test_T23_2_shalW :
    shows (run [0x10, 0x90] (before 0x001000 0x00 [(.r0, 0x00004000)] []))
      0x001002 (some 0x0A) [(.r0, 0x00008000)] [] = true := by decide

/-- T23.3, `SHAL.L ER0` (R241). -/
theorem test_T23_3_shalL :
    shows (run [0x10, 0xB0] (before 0x001000 0x00 [(.r0, 0xC0000001)] []))
      0x001002 (some 0x09) [(.r0, 0x80000002)] [] = true := by decide

/-- T23.4, `SHAR.B R0L` (R242). -/
theorem test_T23_4_sharB :
    shows (run [0x11, 0x88] (before 0x001000 0x23 [(.r0, 0x00000081)] []))
      0x001002 (some 0x29) [(.r0, 0x000000C0)] [] = true := by decide

/-- T23.5, `SHAR.W R0` (R242). -/
theorem test_T23_5_sharW :
    shows (run [0x11, 0x90] (before 0x001000 0x00 [(.r0, 0x00008001)] []))
      0x001002 (some 0x09) [(.r0, 0x0000C000)] [] = true := by decide

/-- T23.6, `SHAR.L ER0` (R242). -/
theorem test_T23_6_sharL :
    shows (run [0x11, 0xB0] (before 0x001000 0x00 [(.r0, 0x80000000)] []))
      0x001002 (some 0x08) [(.r0, 0xC0000000)] [] = true := by decide

/-- T23.7, `SHLL.B R0L` (R243). -/
theorem test_T23_7_shllB :
    shows (run [0x10, 0x08] (before 0x001000 0x03 [(.r0, 0x00000081)] []))
      0x001002 (some 0x01) [(.r0, 0x00000002)] [] = true := by decide

/-- T23.8, `SHLL.W R0` (R243). -/
theorem test_T23_8_shllW :
    shows (run [0x10, 0x10] (before 0x001000 0x00 [(.r0, 0x00004000)] []))
      0x001002 (some 0x08) [(.r0, 0x00008000)] [] = true := by decide

/-- T23.9, `SHLL.L ER0` (R243). -/
theorem test_T23_9_shllL :
    shows (run [0x10, 0x30] (before 0x001000 0x00 [(.r0, 0x80000000)] []))
      0x001002 (some 0x05) [(.r0, 0x00000000)] [] = true := by decide

/-- T23.10, `SHLR.B R0L` (R244). -/
theorem test_T23_10_shlrB :
    shows (run [0x11, 0x08] (before 0x001000 0x0A [(.r0, 0x00000081)] []))
      0x001002 (some 0x01) [(.r0, 0x00000040)] [] = true := by decide

/-- T23.11, `SHLR.W R0` (R244). -/
theorem test_T23_11_shlrW :
    shows (run [0x11, 0x10] (before 0x001000 0x00 [(.r0, 0x00000001)] []))
      0x001002 (some 0x05) [(.r0, 0x00000000)] [] = true := by decide

/-- T23.12, `SHLR.L ER0` (R244). -/
theorem test_T23_12_shlrL :
    shows (run [0x11, 0x30] (before 0x001000 0x00 [(.r0, 0x80000001)] []))
      0x001002 (some 0x01) [(.r0, 0x40000000)] [] = true := by decide

/-- T23.13, `ROTL.B R0L` (R245). -/
theorem test_T23_13_rotlB :
    shows (run [0x12, 0x88] (before 0x001000 0x02 [(.r0, 0x00000081)] []))
      0x001002 (some 0x01) [(.r0, 0x00000003)] [] = true := by decide

/-- T23.14, `ROTL.W R0` (R245). -/
theorem test_T23_14_rotlW :
    shows (run [0x12, 0x90] (before 0x001000 0x00 [(.r0, 0x00008000)] []))
      0x001002 (some 0x01) [(.r0, 0x00000001)] [] = true := by decide

/-- T23.15, `ROTL.L ER0` (R245). -/
theorem test_T23_15_rotlL :
    shows (run [0x12, 0xB0] (before 0x001000 0x00 [(.r0, 0x40000000)] []))
      0x001002 (some 0x08) [(.r0, 0x80000000)] [] = true := by decide

/-- T23.16, `ROTR.B R0L` (R246). -/
theorem test_T23_16_rotrB :
    shows (run [0x13, 0x88] (before 0x001000 0x02 [(.r0, 0x00000081)] []))
      0x001002 (some 0x09) [(.r0, 0x000000C0)] [] = true := by decide

/-- T23.17, `ROTR.W R0` (R246). -/
theorem test_T23_17_rotrW :
    shows (run [0x13, 0x90] (before 0x001000 0x00 [(.r0, 0x00000001)] []))
      0x001002 (some 0x09) [(.r0, 0x00008000)] [] = true := by decide

/-- T23.18, `ROTR.L ER0` (R246). -/
theorem test_T23_18_rotrL :
    shows (run [0x13, 0xB0] (before 0x001000 0x00 [(.r0, 0x00000002)] []))
      0x001002 (some 0x00) [(.r0, 0x00000001)] [] = true := by decide

/-- T23.19, `ROTXL.B R0L` (R247). -/
theorem test_T23_19_rotxlB :
    shows (run [0x12, 0x08] (before 0x001000 0x01 [(.r0, 0x00000080)] []))
      0x001002 (some 0x01) [(.r0, 0x00000001)] [] = true := by decide

/-- T23.20, `ROTXL.W R0` (R247). -/
theorem test_T23_20_rotxlW :
    shows (run [0x12, 0x10] (before 0x001000 0x00 [(.r0, 0x00008000)] []))
      0x001002 (some 0x05) [(.r0, 0x00000000)] [] = true := by decide

/-- T23.21, `ROTXL.L ER0` (R247). -/
theorem test_T23_21_rotxlL :
    shows (run [0x12, 0x30] (before 0x001000 0x00 [(.r0, 0x7FFFFFFF)] []))
      0x001002 (some 0x08) [(.r0, 0xFFFFFFFE)] [] = true := by decide

/-- T23.22, `ROTXR.B R0L` (R248). -/
theorem test_T23_22_rotxrB :
    shows (run [0x13, 0x08] (before 0x001000 0x01 [(.r0, 0x00000001)] []))
      0x001002 (some 0x09) [(.r0, 0x00000080)] [] = true := by decide

/-- T23.23, `ROTXR.W R0` (R248). -/
theorem test_T23_23_rotxrW :
    shows (run [0x13, 0x10] (before 0x001000 0x00 [(.r0, 0x00000001)] []))
      0x001002 (some 0x05) [(.r0, 0x00000000)] [] = true := by decide

/-- T23.24, `ROTXR.L ER0` (R248). -/
theorem test_T23_24_rotxrL :
    shows (run [0x13, 0x30] (before 0x001000 0x00 [(.r0, 0xFFFFFFFE)] []))
      0x001002 (some 0x00) [(.r0, 0x7FFFFFFF)] [] = true := by decide

/-- T24.1, `BSET #7,R0L` (R263). -/
theorem test_T24_1_bsetImmReg :
    shows (run [0x70, 0x78] (before 0x001000 0x0F [] []))
      0x001002 (some 0x0F) [(.r0, 0x00000080)] [] = true := by decide

/-- T24.5, `BCLR #0,R0H` (R264). -/
theorem test_T24_5_bclrImmReg :
    shows (run [0x72, 0x00] (before 0x001000 0x00 [(.r0, 0x0000FFFF)] []))
      0x001002 (some 0x00) [(.r0, 0x0000FEFF)] [] = true := by decide

/-- T24.8, `BNOT #4,R0L` (R265). -/
theorem test_T24_8_bnotImmReg :
    shows (run [0x71, 0x48] (before 0x001000 0x00 [(.r0, 0x00000010)] []))
      0x001002 (some 0x00) [(.r0, 0x00000000)] [] = true := by decide

/-- T24.11, `BTST #7,R0L` (R266). -/
theorem test_T24_11_btstImmReg :
    shows (run [0x73, 0x78] (before 0x001000 0x0B [(.r0, 0x0000007F)] []))
      0x001002 (some 0x0F) [(.r0, 0x0000007F)] [] = true := by decide

/-- T24.16, `BAND #3,R0L` (R267). -/
theorem test_T24_16_bandReg :
    shows (run [0x76, 0x38] (before 0x001000 0x2F [(.r0, 0x00000008)] []))
      0x001002 (some 0x2F) [(.r0, 0x00000008)] [] = true := by decide

/-- T24.19, `BIAND #3,R0L` (R268). -/
theorem test_T24_19_biandReg :
    shows (run [0x76, 0xB8] (before 0x001000 0x2F [] []))
      0x001002 (some 0x2F) [(.r0, 0x00000000)] [] = true := by decide

/-- T24.21, `BOR #3,R0L` (R269). -/
theorem test_T24_21_borReg :
    shows (run [0x74, 0x38] (before 0x001000 0x2E [(.r0, 0x00000008)] []))
      0x001002 (some 0x2F) [(.r0, 0x00000008)] [] = true := by decide

/-- T24.23, `BIOR #3,R0L` (R270). -/
theorem test_T24_23_biorReg :
    shows (run [0x74, 0xB8] (before 0x001000 0x2E [] []))
      0x001002 (some 0x2F) [(.r0, 0x00000000)] [] = true := by decide

/-- T24.25, `BXOR #3,R0L` (R271). -/
theorem test_T24_25_bxorReg :
    shows (run [0x75, 0x38] (before 0x001000 0x2F [(.r0, 0x00000008)] []))
      0x001002 (some 0x2E) [(.r0, 0x00000008)] [] = true := by decide

/-- T24.27, `BIXOR #3,R0L` (R272). -/
theorem test_T24_27_bixorReg :
    shows (run [0x75, 0xB8] (before 0x001000 0x2F [(.r0, 0x00000008)] []))
      0x001002 (some 0x2F) [(.r0, 0x00000008)] [] = true := by decide

/-- T24.29, `BLD #3,R0L` (R273). -/
theorem test_T24_29_bldReg :
    shows (run [0x77, 0x38] (before 0x001000 0x2E [(.r0, 0x00000008)] []))
      0x001002 (some 0x2F) [(.r0, 0x00000008)] [] = true := by decide

/-- T24.31, `BILD #3,R0L` (R274). -/
theorem test_T24_31_bildReg :
    shows (run [0x77, 0xB8] (before 0x001000 0x2E [(.r0, 0x00000008)] []))
      0x001002 (some 0x2E) [(.r0, 0x00000008)] [] = true := by decide

/-- T24.37, `BST #2,R0L` (R275). -/
theorem test_T24_37_bstReg :
    shows (run [0x67, 0x28] (before 0x001000 0x01 [] []))
      0x001002 (some 0x01) [(.r0, 0x00000004)] [] = true := by decide

/-- T24.41, `BIST #2,R0L` (R276). -/
theorem test_T24_41_bistReg :
    shows (run [0x67, 0xA8] (before 0x001000 0x01 [] []))
      0x001002 (some 0x01) [(.r0, 0x00000000)] [] = true := by decide

/-- T25.1, `BEQ *+12 (disp 10)` (R290, R291). -/
theorem test_T25_1_beq8 :
    shows (run [0x47, 0x10] (before 0x001000 0x04 [] []))
      0x001012 (some 0x04) [] [] = true := by decide

/-- T25.3, `BHI *−4 (disp FA)` (R290, R291). -/
theorem test_T25_3_bhi8 :
    shows (run [0x42, 0xFA] (before 0x001000 0x0A [] []))
      0x000FFC none [] [] = true := by decide

/-- T25.4, `BLT *+104 (disp 0100)` (R290, R291). -/
theorem test_T25_4_blt16 :
    shows (run [0x58, 0xD0, 0x01, 0x00] (before 0x001000 0x08 [] []))
      0x001104 none [] [] = true := by decide

/-- T25.5, `BGE *+104 (disp 0100)` (R290, R291). -/
theorem test_T25_5_bge16 :
    shows (run [0x58, 0xC0, 0x01, 0x00] (before 0x001000 0x08 [] []))
      0x001004 none [] [] = true := by decide

/-- T25.6, `BRN *+12 (disp 10)` (R290, R291). -/
theorem test_T25_6_brn8 :
    shows (run [0x41, 0x10] (before 0x001000 0xFF [] []))
      0x001002 none [] [] = true := by decide

/-- T25.7, `BRA disp 11 (odd)` (R290, R27, R396). -/
theorem test_T25_7_bra8 :
    shows (run [0x40, 0x11] (before 0x001000 0x00 [] []))
      0x001012 none [] [] = true := by decide

/-- T25.11, `JMP @ER1` (R292). -/
theorem test_T25_11_jmpInd :
    shows (run [0x59, 0x10] (before 0x001000 0x00 [(.r1, 0xAB123456)] []))
      0x123456 none [(.r1, 0xAB123456)] [] = true := by decide

/-- T25.18, `BSR *+10 (disp 0E)` (R296, R295). -/
theorem test_T25_18_bsr8 :
    shows (run [0x55, 0x0E] (beforeN 0x001000 0x00 [(.r7, 0x1234FF00)] []))
      0x001010 none [(.r7, 0x1234FEFE)] [(0x00FEFC, 0x00), (0x00FEFD, 0x00), (0x00FEFE, 0x10), (0x00FEFF, 0x02)] = true := by decide

/-- T25.22, `JSR @002000:24` (R298, R295). -/
theorem test_T25_22_jsrAbs :
    shows (run [0x5E, 0x00, 0x20, 0x00] (beforeN 0x001000 0x00 [(.r7, 0x0000FF00)] []))
      0x002000 none [(.r7, 0x0000FEFE)] [(0x00FEFC, 0x00), (0x00FEFD, 0x00), (0x00FEFE, 0x10), (0x00FEFF, 0x04)] = true := by decide

/-- T25.25, `RTS` (R300). -/
theorem test_T25_25_rts :
    shows (run [0x54, 0x70] (before 0x001000 0x00 [(.r7, 0x00FFFEFC)] [(0xFFFEFC, 0xAB), (0xFFFEFD, 0x00), (0xFFFEFE, 0x12), (0xFFFEFF, 0x34)]))
      0x001234 none [(.r7, 0x00FFFF00)] [] = true := by decide

/-- T26.1, `RTE` (R311). -/
theorem test_T26_1_rte :
    shows (run [0x56, 0x70] (before 0x001000 0x00 [(.r7, 0x00FFFEFC)] [(0xFFFEFC, 0x85), (0xFFFEFD, 0x00), (0xFFFEFE, 0x12), (0xFFFEFF, 0x34)]))
      0x001234 (some 0x85) [(.r7, 0x00FFFF00)] [] = true := by decide

/-- T26.8, `LDC.W @(0010:16,ER1),CCR` (R316). -/
theorem test_T26_8_ldcWD16 :
    shows (run [0x01, 0x40, 0x6F, 0x10, 0x00, 0x10] (before 0x001000 0x00 [(.r1, 0x00002000)] [(0x002010, 0x0F), (0x002011, 0xEE)]))
      0x001006 (some 0x0F) [] [] = true := by decide

/-- T27.1, `EEPMOV.B` (R341). -/
theorem test_T27_1_eepmovB :
    shows (run [0x7B, 0x5C, 0x59, 0x8F] (before 0x001000 0x0F [(.r4, 0x0000AA03), (.r5, 0x00002000), (.r6, 0x00FFF000)] [(0x002000, 0x11), (0x002001, 0x22), (0x002002, 0x33), (0x002003, 0x44)]))
      0x001004 (some 0x0F) [(.r4, 0x0000AA00), (.r5, 0x00002003), (.r6, 0x00FFF003)] [(0xFFF000, 0x11), (0xFFF001, 0x22), (0xFFF002, 0x33), (0xFFF003, 0x00)] = true := by decide

/-- T27.5, `EEPMOV.W` (R342). -/
theorem test_T27_5_eepmovW :
    shows (run [0x7B, 0xD4, 0x59, 0x8F] (before 0x001000 0x00 [(.r4, 0x12340002), (.r5, 0x00002001), (.r6, 0x00003001)] [(0x002000, 0x00), (0x002001, 0xDE), (0x002002, 0xAD), (0x002003, 0x00)]))
      0x001004 none [(.r4, 0x12340000), (.r5, 0x00002003), (.r6, 0x00003003)] [(0x003000, 0x00), (0x003001, 0xDE), (0x003002, 0xAD), (0x003003, 0x00)] = true := by decide

/-- R319 to R323: LDC and the CCR logic write all eight bits and set the inhibit. -/
theorem test_ccr_writes : ∀ p ∈ ([([0x07, 0xA5], 0xA5), ([0x06, 0x0F], 0x0A), ([0x04, 0x80], 0xDA), ([0x05, 0xFF], 0xA5)] :
    List (List Byte × Byte)),
    (run p.1 (before 0x001000 0x5A [] [])).map (fun t => (t.ccr.toByte, t.irqInhibit)) = some (p.2, true) := by
  decide

/-- R317, R318: STC stores the CCR in a register and in the even byte. -/
theorem test_stcBReg : shows (run [0x02, 0x09] (before 0x001000 0xA5 [] [])) 0x001002 (some 0xA5) [(.r1, 0x000000A5)] [] =
    true := by decide
theorem test_stcWDec : shows (run [0x01, 0x40, 0x6D, 0x90] (before 0x001000 0x9C [(.r1, 0x00002003)] []))
    0x001004 (some 0x9C) [(.r1, 0x00002001)] [(0x002000, 0x9C)] = true := by decide

/-- R177: 58 + 29 = 81, adjusted to 87; C stays 0. -/
theorem test_daa : (run [0x0F, 0x08] (before 0x001000 0x20 [(.r0, 0x00000081)] [])).map
    (fun t => (t.reg32 .r0, t.ccr.c)) = some (0x00000087, false) := by decide

/-- R178: 81 - 29 = 58 hexadecimal, adjusted to 52. -/
theorem test_das : (run [0x1F, 0x08] (before 0x001000 0x20 [(.r0, 0x00000058)] [])).map
    (fun t => (t.reg32 .r0, t.ccr.c)) = some (0x00000052, false) := by decide

/-- R313, R322. -/
theorem test_nop : shows (run [0x00, 0x00] (before 0x001000 0x5A [] [])) 0x001002 (some 0x5A) [] [] = true := by decide
theorem test_sleep : (run [0x01, 0x80] (before 0x001000 0x00 [] [])).map (fun t => (t.pstate, t.pc)) =
    some (.sleep, 0x001002#24) := by decide

/-- R312, R358: TRAPA #2 in normal mode, vector 10 at 000014. -/
theorem test_trapa2 : shows (run [0x57, 0x20] (beforeN 0x001000 0x05 [(.r7, 0x0000FF00)] [(0x14, 0x20), (0x15, 0x10)]))
    0x002010 (some 0x85) [(.r7, 0x0000FEFC)] [(0xFEFC, 0x05), (0xFEFE, 0x10), (0xFEFF, 0x02)] = true := by decide

/-- R60, U9; R73, U8; R148, U10; R107, U4. -/
theorem test_stop_odd_stack : stops [0x54, 0x70] (before 0x001000 0x00 [(.r7, 0x00FFFEFD)] []) .oddStackPointer =
    true := by decide
theorem test_stop_store_over_next : stops [0x6B, 0xA0, 0x00, 0x00, 0x10, 0x06] (before 0x001000 0x00 [] [])
    .storeIntoPrefetchedWord = true := by decide
/-- An access's kind (word, write) and address. -/
def shape : Access → Option (Bool × Bool × Addr)
  | .readByte a => some (false, false, a)
  | .readWord a => some (true, false, a)
  | .writeByte a _ => some (false, true, a)
  | .writeWord a _ => some (true, true, a)
  | .outside => none

/-- The data accesses of a step, first to last. -/
def accesses (o : Option State) : Option (List (Bool × Bool × Addr)) := o.map fun t => t.trace.reverse.filterMap shape

/-- A product with a peripheral register at 00FF40 to 00FF4F, ER1 on it. -/
def withDevice : State :=
  { before 0x001000 0x00 [(.r1, 0x0000FF42)] [] with
    cfg := { resetPlatform with memMap := [{ lo := 0xFF40, hi := 0xFF4F, kind := .device 0 }] } }

/-- R63, R262: BSET #0,@ER1 on a peripheral register is one read and one write, and memory is not written. -/
theorem test_device_bset : accesses (run [0x7D, 0x10, 0x70, 0x00] withDevice) =
    some [(false, false, 0x00FF42), (false, true, 0x00FF42)] ∧
    (run [0x7D, 0x10, 0x70, 0x00] withDevice).map (fun t => t.mem.read 0xFF42) = some (withDevice.mem.read 0xFF42) := by decide

/-- R63: a peripheral register's value may depend on the accesses made before it is read. -/
theorem test_device_value : (withDevice.noted (.writeByte 0x00FF40 1)).peek 0x00FF42 =
    Config.device 0 0x00FF42 [.writeByte 0x00FF40 1] := by rfl

/-- R341, R342, R63: EEPMOV.B with a count of 0 makes its two dummy reads; with a count of 1, one read and one write more. -/
theorem test_eepmov_accesses : ∀ p ∈ ([(0x00000000, []), (0x00000001, [(false, false, 0x003000), (false, true, 0x004000)])] :
    List (Long × List (Bool × Bool × Addr))),
    accesses (run [0x7B, 0x5C, 0x59, 0x8F]
      (before 0x001000 0x00 [(.r4, p.1), (.r5, 0x00003000), (.r6, 0x00004000)] [])) =
      some ((false, false, 0x003000) :: (false, false, 0x004000) :: p.2) := by decide

/-- R358, R63: TRAPA #2 writes the frame's low word, then its high word, and reads the two words of its vector. -/
theorem test_trapa_accesses : accesses (run [0x57, 0x20] (before 0x001000 0x00 [(.r7, 0x0000FF00)] [])) =
    some [(true, true, 0x00FEFE), (true, true, 0x00FEFC), (true, false, 0x000028), (true, false, 0x00002A)] := by decide

/-- R153, R138 b: MOV.L ER2,@-ER7 writes its low-order word first, MOV.L ER2,@-ER1 its high-order word. -/
theorem test_movLStDec_order : ∀ p ∈ ([(.r7, [0x00FEFE, 0x00FEFC]), (.r1, [0x001FFC, 0x001FFE])] : List (RegNum × List Addr)),
    (match exec (.movLStDec .r2 p.1) (before 0x001000 0x00 [(.r1, 0x00002000), (.r7, 0x0000FF00)] []) with
      | .next t => accesses (some t)
      | _ => none) = some (p.2.map fun a => (true, true, a)) := by decide

/-- R342, log 20: an NMI cuts an EEPMOV.W that directly follows an LDC: one byte is copied and the NMI's vector is taken. -/
theorem test_cut_after_inhibit :
    let s := { before 0x001000 0x80 [(.r4, 2), (.r5, 0x00003000), (.r6, 0x00004000), (.r7, 0x0000FF00)]
        [(0x00001E, 0x20), (0x001000, 0x7B), (0x001001, 0xD4), (0x001002, 0x59), (0x001003, 0x8F)] with
      irqInhibit := true, inputs := [.requests [] (some 1)] }
    (match step s with
      | .next t => some (t.pc, t.reg32 .r4)
      | _ => none) = some (0x002000, 1) := by decide

theorem test_stop_undefined : stops [0x0B, 0x10] (before 0x001000 0x00 [] []) .undefinedInstruction = true := by
  decide

/-! ## Witnesses: states and operands that meet the hypotheses of each statement -/

/-- Program execution at 001000, SP at FFFF00, R4 = 3, ER5, ER6 and ER1 in RAM. -/
def w : State :=
  before 0x001000 0x00 [(.r1, 0x00002000), (.r4, 0x00000003), (.r5, 0x00003000), (.r6, 0x00004000), (.r7, 0x00FFFF00)]
    [(0x003000, 0x11), (0x003001, 0x22), (0x003002, 0x33)]

/-- The same in normal mode, SP at FF00. -/
def wN : State := { w with cfg := { resetPlatform with mode := .normal }, er := w.er.set .r7 0x0000FF00 }

/-- An NMI and a maskable request. -/
def nmi : IrqRequest := { nmi := true, v := 0, tag := 0, wakes := true }
def irq : IrqRequest := { nmi := false, v := 24, tag := 1, wakes := true }

theorem all_writable (b : Addr) : w.writable b = true := rfl

theorem witness_DecodeOfEncode : (Instr.movWLdInc .r6 { ext := false, n := .r7 }).wellFormed = true := rfl

theorem witness_EncodeOfDecode : decode [0x54, 0x70, 0xFF] = some .rts := by decide

/-- A state whose fetch finds no instruction, and for each clause a nibble or byte at the edge of its range. -/
theorem witness_UndefinedEncodingStops :
    let s := before 0x001000 0x00 [] [(0x001000, 0x0B), (0x001001, 0x10)]
    let high : List Nibble := [.x8, .x9, .xA, .xB, .xC, .xD, .xE, .xF]
    (s.pstate = .programExecution ∧ s.inputs = [] ∧ s.fetch = none) ∧
    (Nibble.x1 ∉ Nibble.x0 :: high ∧ Nibble.xE ∉ ([.x0, .x5, .x7, .x8, .x9, .xD, .xF] : List Nibble) ∧
      Nibble.x7 ∉ ([.x0, .x1, .x2, .x3, .x4, .x5, .x6] : List Nibble) ∧ Nibble.xF ∉ ([.x0, .x2, .x8, .xA] : List Nibble)) ∧
    (Nibble.x8 ∈ high ∧ Nibble.xF ∈ high ∧ Nibble.xB ∈ ([.x3, .xB] : List Nibble) ∧ Nibble.x1 ≠ .x0 ∧ Nibble.xF ≠ .x0) ∧
    (Nibble.x4 ∉ ([.x0, .x1, .x2, .x3] : List Nibble) ∧ Nibble.x3 ∉ ([.x2, .xA] : List Nibble)) ∧
    ((0x01 : Byte) ≠ 0x00 ∧ (0x71 : Byte) ≠ 0x70 ∧ (0x5D : Byte) ∉ ([0x5C, 0xD4] : List Byte) ∧ (0x58 : Byte) ≠ 0x59 ∧
      (0x8E : Byte) ≠ 0x8F) ∧
    ((0x68 : Byte) ∉ ([0x69, 0x6B, 0x6D, 0x6F, 0x78] : List Byte) ∧ (0x51 : Byte) ∉ ([0x50, 0x52] : List Byte) ∧
      (0x54 : Byte) ∉ ([0x51, 0x53] : List Byte) ∧ (0x67 : Byte) ∉ ([0x64, 0x65, 0x66] : List Byte) ∧
      (0x69 : Byte) ∉ ([0x6A, 0x6B] : List Byte) ∧ (0x6A : Byte) ≠ 0x6B ∧
      (0x70 : Byte) ∉ ([0x63, 0x73, 0x74, 0x75, 0x76, 0x77] : List Byte) ∧
      (0x77 : Byte) ∉ ([0x60, 0x61, 0x62, 0x67, 0x70, 0x71, 0x72] : List Byte)) ∧
    (Nibble.x8 ∈ high ∧ Nibble.x2 ≠ .xA ∧ Nibble.x7 ∉ high ∧ Nibble.xA ≠ .x2) ∧
    (0x21 : Byte) ∈ [nibs .x2 .x1, nibs .xA .x1] ∧ (0xAF : Byte) ∈ [nibs .x2 .xF, nibs .xA .xF] := by
  refine ⟨?_, ?_, ?_, ?_, ?_, ?_, ?_, ?_⟩ <;> decide

theorem witness_StepRunsDecodedInstruction :
    w.pstate = .programExecution ∧ w.fetch = some .nop ∧ w.inputs = [] ∧
    (let s := { w with inputs := [.requests [irq] (some 1), .resHigh], irqInhibit := true }
     s.pstate = .programExecution ∧ s.fetch = some .nop ∧ s.inputs = .requests [irq] (some 1) :: [.resHigh] ∧
       s.irqInhibit = true) ∧
    (let s := { w with inputs := [.requests [irq] none], ccr := { w.ccr with i := true } }
     s.pstate = .programExecution ∧ s.fetch = some .nop ∧ s.inputs = .requests [irq] none :: [] ∧
       ∀ r ∈ [irq], s.accepts r = false) := by decide

theorem witness_WordAndLongAccess : w.mem.wf ∧ ∀ b, w.writable b = true := ⟨by decide, all_writable⟩

theorem witness_LoadByte : w.cfg.hasEclock = true := rfl

/-- With ER7, and with another register. -/
theorem witness_LoadPostIncrement :
    ((RegNum.r7 = .r7 → w.spOdd = false)) ∧ (RegNum.r1 = .r7 → { w with er := w.er.set .r7 1 }.spOdd = false) := by
  decide

theorem witness_PopFromStack : w.spOdd = false := by decide

theorem witness_StoreByte : w.mem.wf ∧ w.cfg.hasEclock = true ∧
    (∀ p ∈ [(w.eaInd .r1, 2), (w.eaDisp16 .r1 0x7FFF#16, 4), (w.eaDisp24 .r1 0xFFFFFF#24, 8), (eaAbs8 0xFF#8, 2),
      (eaAbs16 0x8000#16, 4), (0xFFFFFF#24, 6)], w.evenAddr p.1 ≠ w.nextPc p.2) ∧
    w.evenAddr (eaAbs16 0x7FFF#16) ≠ w.nextPc 4 := by decide

theorem witness_StoreWordAndLong : w.mem.wf ∧
    (∀ p ∈ [(w.eaInd .r1, 2), (w.eaDisp16 .r1 0xFFFF#16, 4), (w.eaDisp24 .r1 2#24, 8), (eaAbs16 0xFFFE#16, 4),
      (0xFFFFFE#24, 6)], w.evenAddr p.1 ≠ w.nextPc p.2) ∧
    (∀ p ∈ [(w.eaInd .r1, 4), (w.eaDisp16 .r1 0xFFFF#16, 6), (w.eaDisp24 .r1 2#24, 10), (eaAbs16 0xFFFE#16, 6),
      (0xFFFFFE#24, 8)], w.evenAddr p.1 ≠ w.nextPc p.2 ∧ w.evenAddr (p.1 + 2#24) ≠ w.nextPc p.2) := by decide

/-- Each size, with ER7 and with another register. -/
theorem witness_StorePreDecrement : w.mem.wf ∧ ∀ r ∈ [RegNum.r1, .r7], (r = .r7 → w.spOdd = false) ∧
    w.evenAddr ((w.setReg32 r (w.reg32 r - 1#32)).eaInd r) ≠ w.nextPc 2 ∧
    w.evenAddr ((w.setReg32 r (w.reg32 r - 2#32)).eaInd r) ≠ w.nextPc 2 ∧
    w.evenAddr ((w.setReg32 r (w.reg32 r - 4#32)).eaInd r) ≠ w.nextPc 4 ∧
    w.evenAddr ((w.setReg32 r (w.reg32 r - 4#32)).eaInd r + 2#24) ≠ w.nextPc 4 := by decide

theorem witness_PushOnStack : w.mem.wf ∧ w.spOdd = false ∧
    (let u2 := w.setReg32 .r7 (w.reg32 .r7 - 2#32)
     w.evenAddr (u2.eaInd .r7) ≠ w.nextPc 2) ∧
    (let u4 := w.setReg32 .r7 (w.reg32 .r7 - 4#32)
     w.evenAddr (u4.eaInd .r7) ≠ w.nextPc 4 ∧ w.evenAddr (u4.eaInd .r7 + 2#24) ≠ w.nextPc 4) := by decide

theorem witness_FlagsOfTable27 : 4 < 5 ∧ 4 < 8 ∧ 4 < 16 ∧ 4 < 32 := by decide

/-- Each row of R177 and of R178 at a corner of its ranges: C, upper digit and its range, H, lower digit and its range. -/
theorem witness_DecimalAdjust : ∀ p ∈ ([((false, 0, 9, false, 0, 9), 0x20, 0x99), ((false, 0, 8, false, 10, 15), 0x00, 0x8F),
    ((false, 0, 9, true, 0, 3), 0x20, 0x93), ((false, 10, 15, false, 0, 9), 0x00, 0xA0),
    ((false, 9, 15, false, 10, 15), 0x00, 0x9A), ((false, 10, 15, true, 0, 3), 0x20, 0xA3),
    ((true, 0, 2, false, 0, 9), 0x01, 0x29), ((true, 0, 2, false, 10, 15), 0x01, 0x2F),
    ((true, 0, 3, true, 0, 3), 0x21, 0x33), ((false, 0, 8, true, 6, 15), 0x20, 0x86),
    ((true, 7, 15, false, 0, 9), 0x01, 0x70), ((true, 6, 15, true, 6, 15), 0x21, 0x66)] :
    List ((Bool × Nat × Nat × Bool × Nat × Nat) × Byte × Byte)),
    let s := before 0x001000 (if p.1.2.2.2.1 then p.2.1 else p.2.1 &&& 0xDF) [(.r0, p.2.2.setWidth 32)] []
    let d := (s.reg8 { low := true, n := .r0 }).toNat
    s.ccr.c = p.1.1 ∧ p.1.2.1 ≤ d / 16 ∧ d / 16 ≤ p.1.2.2.1 ∧ s.ccr.h = p.1.2.2.2.1 ∧
      p.1.2.2.2.2.1 ≤ d % 16 ∧ d % 16 ≤ p.1.2.2.2.2.2 := by decide

/-- The largest quotients that fit. -/
theorem witness_DivideUnsigned :
    (let s := before 0x001000 0x00 [(.r0, 0x01), (.r1, 0xFF)] []
     s.reg8 { low := true, n := .r0 } ≠ 0#8 ∧
       (s.reg16 { ext := false, n := .r1 }).toNat / (s.reg8 { low := true, n := .r0 }).toNat ≤ 255) ∧
    (let s := before 0x001000 0x00 [(.r0, 0xFFFF), (.r1, 0xFFFEFFFF)] []
     s.reg16 { ext := false, n := .r0 } ≠ 0#16 ∧
       (s.reg32 .r1).toNat / (s.reg16 { ext := false, n := .r0 }).toNat ≤ 65535) := by decide

/-- The least and the greatest quotient that fits. -/
theorem witness_DivideSigned :
    (∀ d ∈ [0xFF80, 0x007F],
      let s := before 0x001000 0x00 [(.r0, 0x01), (.r1, BitVec.ofNat 32 d)] []
      let q := (s.reg16 { ext := false, n := .r1 }).toInt.tdiv (s.reg8 { low := true, n := .r0 }).toInt
      s.reg8 { low := true, n := .r0 } ≠ 0#8 ∧ -128 ≤ q ∧ q ≤ 127) ∧
    (∀ d ∈ [0xFFFF8000, 0x00007FFF],
      let s := before 0x001000 0x00 [(.r0, 0x01), (.r1, BitVec.ofNat 32 d)] []
      let q := (s.reg32 .r1).toInt.tdiv (s.reg16 { ext := false, n := .r0 }).toInt
      s.reg16 { ext := false, n := .r0 } ≠ 0#16 ∧ -32768 ≤ q ∧ q ≤ 32767) := by decide

theorem witness_BitWriteOnMemory : w.mem.wf ∧
    w.evenAddr (w.eaInd .r1) ≠ w.nextPc 4 ∧ w.evenAddr (eaAbs8 0x00#8) ≠ w.nextPc 4 ∧
    w.evenAddr (eaAbs8 0xFF#8) ≠ w.nextPc 4 := by decide

theorem witness_BitTestAndBitLogic (i j k : Instr) : [i, j, k][0]? = some i ∧ [i, j, k][1]? = some j ∧
    [i, j, k][2]? = some k := ⟨rfl, rfl, rfl⟩

theorem witness_CallSubroutine :
    (wN.mem.wf ∧ wN.spOdd = false ∧ wN.cfg.mode = .normal ∧
      ∀ len ∈ [2, 4], wN.evenAddr ((wN.reg32 .r7 - 2#32).setWidth 24) ≠ wN.nextPc len) ∧
    (w.mem.wf ∧ w.spOdd = false ∧ w.cfg.mode = .advanced ∧
      ∀ len ∈ [2, 4], w.evenAddr ((w.reg32 .r7 - 4#32).setWidth 24) ≠ w.nextPc len ∧
        w.evenAddr ((w.reg32 .r7 - 4#32).setWidth 24 + 2#24) ≠ w.nextPc len) := by decide

theorem witness_ReturnFromSubroutine : w.spOdd = false := by decide

theorem witness_CallThenReturn : w.mem.wf ∧ w.spOdd = false ∧ (∀ b, w.writable b = true) ∧
    ∀ len ∈ [2, 4], ∀ k ∈ [2#32, 4#32], w.evenAddr ((w.reg32 .r7 - k).setWidth 24) ≠ w.nextPc len :=
  ⟨by decide, by decide, all_writable, by
    intro len hl k hk
    simp only [List.mem_cons, List.not_mem_nil, or_false] at hl hk
    rcases hl with rfl | rfl <;> rcases hk with rfl | rfl <;> decide⟩

theorem witness_StoreCcr :
    let s := before 0x001000 0xA5 [(.r1, 0x00002000)] []
    let b : Byte := 0xA5
    (s.mem.wf ∧ b.getLsbD 7 = s.ccr.i ∧ b.getLsbD 6 = s.ccr.ui ∧ b.getLsbD 5 = s.ccr.h ∧ b.getLsbD 4 = s.ccr.u ∧
      b.getLsbD 3 = s.ccr.n ∧ b.getLsbD 2 = s.ccr.z ∧ b.getLsbD 1 = s.ccr.v ∧ b.getLsbD 0 = s.ccr.c) ∧
    (∀ p ∈ [(s.eaInd .r1, 4), (s.eaDisp16 .r1 2#16, 6), (s.eaDisp24 .r1 2#24, 10), (eaAbs16 0x8000#16, 6),
      (0xFFFFFE#24, 8)], s.evenAddr p.1 ≠ s.nextPc p.2) ∧
    s.evenAddr ((s.setReg32 .r1 (s.reg32 .r1 - 2#32)).eaInd .r1) ≠ s.nextPc 4 := by decide

theorem witness_TrapEntry : ∀ s ∈ [w, wN], s.mem.wf ∧ s.spOdd = false ∧
    s.evenAddr ((s.reg32 .r7 - 4#32).setWidth 24) ≠ s.nextPc 2 ∧
    s.evenAddr ((s.reg32 .r7 - 4#32).setWidth 24 + 2#24) ≠ s.nextPc 2 := by decide

theorem witness_ReturnFromException : w.spOdd = false ∧ wN.spOdd = false := by decide

theorem witness_TrapThenReturn : w.mem.wf ∧ w.spOdd = false ∧ (∀ b, w.writable b = true) ∧
    w.evenAddr ((w.reg32 .r7 - 4#32).setWidth 24) ≠ w.nextPc 2 ∧
    w.evenAddr ((w.reg32 .r7 - 4#32).setWidth 24 + 2#24) ≠ w.nextPc 2 :=
  ⟨by decide, by decide, all_writable, by decide, by decide⟩

theorem witness_BlockTransferByte : w.mem.wf ∧ (w.reg8 { low := true, n := .r4 }).toNat = 3 ∧
    ∀ k, k < 3 → w.evenAddr ((w.reg32 .r6 + BitVec.ofNat 32 k).setWidth 24) ≠ w.nextPc 4 := by decide

/-- No cut, and a cut of 0 and of one more than the count. -/
theorem witness_BlockTransferWord : ∀ c ∈ [none, some 0, some 4],
    let s := { w with nmiCut := c }
    s.mem.wf ∧ (s.reg16 { ext := false, n := .r4 }).toNat = 3 ∧ (∀ k ∈ s.nmiCut, k = 0 ∨ 3 < k) ∧
      ∀ k, k < 3 → s.evenAddr ((s.reg32 .r6 + BitVec.ofNat 32 k).setWidth 24) ≠ s.nextPc 4 := by decide

/-- The cut after the first byte and after the last. -/
theorem witness_BlockTransferCutByNmi : ∀ k ∈ [1, 3],
    let s := { w with nmiCut := some k }
    s.mem.wf ∧ s.spOdd = false ∧ s.nmiCut = some k ∧ 1 ≤ k ∧ k ≤ (s.reg16 { ext := false, n := .r4 }).toNat ∧
      ∀ j, j < k → s.evenAddr ((s.reg32 .r6 + BitVec.ofNat 32 j).setWidth 24) ≠ s.nextPc 4 := by decide

theorem witness_InterruptEntry : ∀ r ∈ [nmi, irq],
    let s := { w with inputs := [.requests [r] none] }
    s.mem.wf ∧ s.pstate = .programExecution ∧ s.irqInhibit = false ∧ s.inputs = .requests [r] none :: [] ∧
      s.select [r] = some r ∧ s.spOdd = false := by decide

theorem witness_InterruptSelection :
    (let s := { w with ccr := { w.ccr with i := true } }
     s.select [irq] = none ∧ irq ∈ [irq] ∧ nmi.nmi = true ∧ s.ccr.i = true ∧ s.cfg.uiIsMask = false ∧ irq.nmi = false) ∧
    w.select [irq, nmi] = some nmi ∧ irq ∈ [irq, nmi] ∧ w.accepts irq = true ∧ nmi ∈ [irq, nmi] ∧
      w.accepts nmi = true ∧ w.ccr.i = false := by decide

theorem witness_WakeFromSleep :
    (let s := { w with pstate := .sleep, inputs := [.requests [irq] none] }
     s.mem.wf ∧ s.inputs = .requests [irq] none :: [] ∧
       (s.pstate = .sleep ∧ [irq] = [irq] ∨ s.pstate = .softwareStandby ∧ [irq] = [irq].filter (fun r => r.wakes)) ∧
       s.select [irq] = some irq ∧ s.spOdd = false ∧ s.select [] = none) ∧
    (let s := { w with pstate := .softwareStandby, inputs := [.requests [nmi] none] }
     s.mem.wf ∧ s.inputs = .requests [nmi] none :: [] ∧
       (s.pstate = .sleep ∧ [nmi] = [nmi] ∨ s.pstate = .softwareStandby ∧ [nmi] = [nmi].filter (fun r => r.wakes)) ∧
       s.select [nmi] = some nmi ∧ s.spOdd = false) := by decide

/-- With no request at the third step, and with an NMI there. -/
theorem witness_ResetSequence : ∀ p ∈ [[], [nmi]],
    let s := { w with inputs := [.resLow [0x2000], .resHigh, .requests p (some 1)] }
    s.mem.wf ∧ s.pstate ≠ .hardwareStandby ∧ s.inputs = .resLow [0x2000] :: .resHigh :: .requests p (some 1) :: [] ∧
      s.steady 0x003000#24 = true ∧ 0x003000#24 ∉ [0x2000].map (fun a => s.byteAddr (BitVec.ofNat 24 a)) := by decide

/-- Each clause: a request while stopped; STBY low, STBY high; a bus request; a bus return after two writes to one byte of
RAM, where a byte not written, the later write, and no write to ROM are to be seen. -/
theorem witness_NothingRunsWhileStopped :
    (∀ p ∈ [PState.resetState, .hardwareStandby, .busReleased],
      let s := { w with pstate := p, inputs := [.requests [nmi] none] }
      (s.pstate = .resetState ∨ s.pstate = .hardwareStandby ∨ s.pstate = .busReleased) ∧
        s.inputs = .requests [nmi] none :: []) ∧
    { w with inputs := [.stbyLow] }.inputs = .stbyLow :: [] ∧
    (let s := { w with pstate := .hardwareStandby, inputs := [.stbyHigh] }
     s.pstate = .hardwareStandby ∧ s.inputs = .stbyHigh :: []) ∧
    (let s := { w with inputs := [.busRequest] }
     s.pstate = .programExecution ∧ s.inputs = .busRequest :: []) ∧
    (let writes : List Host.Cell := [(0x2000, 1), (0x2000, 2)]
     let s := { w with pstate := .busReleased, inputs := [.busReturn writes] }
     s.mem.wf ∧ s.pstate = .busReleased ∧ s.inputs = .busReturn writes :: [] ∧
       (∀ x ∈ writes, s.byteAddr (BitVec.ofNat 24 x.1) ≠ 0x003000#24) ∧
       writes = [(0x2000, 1)] ++ (0x2000, 2) :: [] ∧ s.writable (s.byteAddr (BitVec.ofNat 24 0x2000)) = true ∧
       { s with cfg := { s.cfg with memMap := [{ lo := 0x2000, hi := 0x2FFF, kind := .rom }] } }.writable 0x002000#24 =
         false) := by decide

/-- Each clause with an odd SP: running, asleep, in software standby, and EEPMOV.W cut after its first byte and its last. -/
theorem witness_OddStackAndEclockStops :
    let s := { w with er := w.er.set .r7 0x00FFFF01, inputs := [.requests [nmi] none],
                      cfg := { w.cfg with hasEclock := false } }
    s.spOdd = true ∧ s.pstate = .programExecution ∧ s.irqInhibit = false ∧ s.inputs = .requests [nmi] none :: [] ∧
      s.select [nmi] = some nmi ∧ s.cfg.hasEclock = false ∧
      (∀ q ∈ [PState.sleep, .softwareStandby],
        let u := { s with pstate := q }
        (u.pstate = .sleep ∧ [nmi] = [nmi] ∨ u.pstate = .softwareStandby ∧ [nmi] = [nmi].filter (fun r => r.wakes)) ∧
          u.spOdd = true ∧ u.inputs = .requests [nmi] none :: [] ∧ u.select [nmi] = some nmi) ∧
      ∀ k ∈ [1, 3],
        let u := { s with nmiCut := some k }
        u.spOdd = true ∧ u.nmiCut = some k ∧ 1 ≤ k ∧ k ≤ (u.reg16 { ext := false, n := .r4 }).toNat ∧
          ∀ j, j < k → u.evenAddr ((u.reg32 .r6 + BitVec.ofNat 32 j).setWidth 24) ≠ u.nextPc 4 := by decide

/-- The address stored to lies over the word at `next`: in each list, in each of its words; with an odd SP where the stack is not
used; with a register and ER7 predecremented; for EEPMOV at its first byte and at its last, with no cut, with a cut of 0, and
with a cut after that byte. -/
theorem witness_StoreOverNextStops :
    w.spOdd = false ∧ w.cfg.hasEclock = true ∧ w.evenAddr (eaAbs16 0x1005#16) = w.nextPc 4 ∧
    w.evenAddr 0x001007#24 = w.nextPc 6 ∧
    w.evenAddr 0x001008#24 = w.nextPc 8 ∧ w.evenAddr (0x001006#24 + 2#24) = w.nextPc 8 ∧
    (let s := { w with er := w.er.set .r7 0x00FFFF01 }
     s.spOdd = true ∧ s.evenAddr 0x001007#24 = s.nextPc 6 ∧ (RegNum.r1 = .r7 → s.spOdd = false)) ∧
    (let s := { w with er := w.er.set .r7 0x00001004 }
     (RegNum.r7 = .r7 → s.spOdd = false) ∧ s.evenAddr ((s.reg32 .r7 - 2#32).setWidth 24) = s.nextPc 2) ∧
    (let s := { w with er := w.er.set .r7 0x00001006 }
     s.spOdd = false ∧ s.evenAddr ((s.reg32 .r7 - 2#32).setWidth 24) = s.nextPc 4 ∧ s.cfg.mode = .advanced ∧
       s.evenAddr ((s.reg32 .r7 - 4#32).setWidth 24 + 2#24) = s.nextPc 4 ∧
       s.evenAddr ((s.reg32 .r7 - 4#32).setWidth 24) = s.nextPc 2) ∧
    (∀ k ∈ [0, 2], ∀ c ∈ [none, some 0, some 3],
     let s := { w with er := w.er.set .r6 (0x00001005 - BitVec.ofNat 32 k), nmiCut := c }
     s.evenAddr ((s.reg32 .r6 + BitVec.ofNat 32 k).setWidth 24) = s.nextPc 4 ∧
       k < (s.reg8 { low := true, n := .r4 }).toNat ∧ k < (s.reg16 { ext := false, n := .r4 }).toNat ∧
       ∀ x ∈ s.nmiCut, x = 0 ∨ k < x) := by decide

theorem witness_StepKeepsInvariant : State.reset.inv ∧
    step State.reset = .next { State.reset with pc := 2, irqInhibit := false } := ⟨by decide, by rfl⟩

/-- `exec` goes on. -/
def goes (i : Instr) (s : State) : Bool :=
  match exec i s with
  | .next _ => true
  | _ => false

/-- NOP, TRAPA #0, RTE and EEPMOV.W go on from `w`, and are none of the CCR writers; EEPMOV.W whole, and cut after its first byte
and after its last. -/
theorem witness_MaskBitsAndInhibit :
    (∀ p ∈ [(Instr.nop, w), (.trapa0, w), (.rte, w), (.eepmovW, w), (.eepmovW, { w with nmiCut := some 1 }),
        (.eepmovW, { w with nmiCut := some 3 })],
      goes p.1 p.2 = true ∧
      (∀ (rs : Reg8) (ers : RegNum) (b : Byte) (d16 a16 : BitVec 16) (d24 a24 : BitVec 24),
        p.1 ∉ [Instr.ldcBImm b, .ldcBReg rs, .ldcWInd ers, .ldcWD16 d16 ers, .ldcWD24 d24 ers, .ldcWInc ers,
          .ldcWA16 a16, .ldcWA24 a24, .andc b, .orc b, .xorc b])) ∧
    (∀ k ∈ [1, 3], 1 ≤ k ∧ k ≤ ({ w with nmiCut := some k }.reg16 { ext := false, n := .r4 }).toNat) := by
  refine ⟨fun p hp => ?_, by decide⟩
  simp only [List.mem_cons, List.not_mem_nil, or_false] at hp
  rcases hp with rfl | rfl | rfl | rfl | rfl | rfl <;> exact ⟨by decide, by intros; simp⟩

end Sys2Proof.Tests
end

section
/-! SUPPORT. Every step keeps `State.inv` and the product's parameters: what an outcome keeps, for each shape of
instruction, then for `exec`, for exception entry and reset, for the events, and for `step`. -/

namespace Sys2Proof.Machine

/-- If the outcome goes on, then to a state that meets the invariant and has the parameters `c`. -/
def NextInv (o : Result) (c : Platform) : Prop := ∀ t, o = .next t → t.inv ∧ t.cfg = c

/-! ## What makes an outcome keep the invariant -/

theorem nextInv_next {t : State} {c : Platform} (h : t.inv ∧ t.cfg = c) : NextInv (.next t) c := by
  intro u hu
  cases hu
  exact h

/-- A step that leaves the pc alone and keeps memory canonical keeps the invariant. -/
theorem inv_of_pc_eq {s t : State} (hs : s.inv) (hm : t.mem.wf) (hp : t.pc = s.pc) (hc : t.cfg = s.cfg) :
    t.inv ∧ t.cfg = s.cfg := by
  refine ⟨⟨hm, ?_⟩, hc⟩
  rw [State.evenAddr_congr hc, hp]
  exact hs.2

/-- What an instruction asks of the state it runs from, and what every operation on the way to its pc keeps: memory
is canonical and the parameters are `c`. -/
structure Sound (u : State) (c : Platform) : Prop where
  wf : u.mem.wf
  cfg : u.cfg = c

/-- `pc <- t` makes the pc even and puts it inside the address space, whatever `t` is (R27). -/
theorem Sound.inv_setPc {u : State} {c : Platform} (h : Sound u c) {a : Addr} :
    (u.setPc a).inv ∧ (u.setPc a).cfg = c :=
  ⟨⟨h.wf, State.evenAddr_evenAddr u a⟩, h.cfg⟩

theorem Sound.nextInv_setPc {u : State} {c : Platform} (h : Sound u c) {a : Addr} : NextInv (.next (u.setPc a)) c :=
  nextInv_next h.inv_setPc

/-- `pc <- next` is a `pc <- t` (R26). -/
theorem Sound.nextInv_advance {u : State} {c : Platform} (h : Sound u c) {len : Nat} :
    NextInv (.next (u.advance len)) c :=
  h.nextInv_setPc

/-! ## The operations that keep memory canonical and the parameters -/

section Operations
variable {u : State} {c : Platform} (h : Sound u c)
include h

theorem Sound.setReg32 {n : RegNum} {v : Long} : Sound (u.setReg32 n v) c := ⟨h.wf, h.cfg⟩

theorem Sound.setReg16 {r : Reg16} {v : Word} : Sound (u.setReg16 r v) c := h.setReg32

theorem Sound.setReg8 {r : Reg8} {v : Byte} : Sound (u.setReg8 r v) c := h.setReg32

theorem Sound.stepUp {n : RegNum} {k : Long} : Sound (u.stepUp n k) c := h.setReg32

theorem Sound.stepDown {n : RegNum} {k : Long} : Sound (u.stepDown n k) c := h.setReg32

theorem Sound.setCcr {x : Ccr} : Sound (u.setCcr x) c := ⟨h.wf, h.cfg⟩

theorem Sound.drew {k : Nat} : Sound (u.drew k) c := ⟨h.wf, h.cfg⟩

theorem Sound.noted {x : Access} : Sound (u.noted x) c := ⟨h.wf, h.cfg⟩

theorem Sound.sawByte {a : Addr} : Sound (u.sawByte a) c := h.noted

theorem Sound.sawWord {a : Addr} : Sound (u.sawWord a) c := h.noted

theorem Sound.sawLong {a : Addr} : Sound (u.sawLong a) c := h.sawWord.sawWord

theorem Sound.sawEnds : Sound u.sawEnds c := h.sawByte.sawByte

theorem Sound.sawEntry {p : Addr} : Sound (u.sawEntry p) c := by
  unfold State.sawEntry
  split
  · exact h.sawWord
  · exact h.sawLong

theorem Sound.sawMemInd {aa : BitVec 8} : Sound (u.sawMemInd aa) c := h.sawEntry

theorem Sound.loseRegisters : Sound u.loseRegisters c := ⟨h.wf, h.cfg⟩

theorem Sound.setI : Sound u.setI c := ⟨h.wf, h.cfg⟩

theorem Sound.writeByte {a : Addr} {v : Byte} : Sound (u.writeByte a v) c :=
  ⟨State.wf_writeByte h.wf a v, (State.writeByte_cfg u a v).trans h.cfg⟩

theorem Sound.writeWord {a : Addr} {v : Word} : Sound (u.writeWord a v) c :=
  ⟨State.wf_writeWord h.wf a v, (State.writeWord_cfg u a v).trans h.cfg⟩

theorem Sound.writeLong {a : Addr} {v : Long} : Sound (u.writeLong a v) c := h.writeWord.writeWord

theorem Sound.writeLongLowFirst {a : Addr} {v : Long} : Sound (u.writeLongLowFirst a v) c := h.writeWord.writeWord

theorem Sound.writeEven {a : Addr} {v : Byte} : Sound (u.writeEven a v) c :=
  ⟨State.wf_writeEven h.wf a v, (State.writeEven_cfg u a v).trans h.cfg⟩

theorem Sound.writeOdd {a : Addr} {v : Byte} : Sound (u.writeOdd a v) c :=
  ⟨State.wf_writeOdd h.wf a v, (State.writeOdd_cfg u a v).trans h.cfg⟩

theorem Sound.writeFrame {a r : Addr} : Sound (u.writeFrame a r) c :=
  ⟨State.wf_writeFrame h.wf a r, (State.writeFrame_cfg u a r).trans h.cfg⟩

end Operations

/-! ## Sequencing and guards -/

theorem nextInv_andThen {o : Result} {f : State → Result} {c : Platform}
    (h : ∀ u, o = .next u → NextInv (f u) c) : NextInv (andThen o f) c := by
  intro t ht
  obtain ⟨u, hu, hf⟩ := andThen_eq_next.1 ht
  exact h u hu t hf

theorem nextInv_guardSp {s : State} {k : State → Result} {c : Platform} (h : NextInv (k s) c) :
    NextInv (guardSp s k) c :=
  fun t ht => h t (guardSp_eq_next.1 ht).2

theorem nextInv_guardNext {len : Nat} {ws : List Addr} {s : State} {k : State → Result} {c : Platform}
    (h : NextInv (k s) c) : NextInv (guardNext len ws s k) c :=
  fun t ht => h t (guardNext_eq_next.1 ht).2

theorem nextInv_guardStackReg {n : RegNum} {s : State} {k : State → Result} {c : Platform}
    (h : NextInv (k s) c) : NextInv (guardStackReg n s k) c :=
  fun t ht => h t (guardStackReg_eq_next.1 ht).2

theorem nextInv_guardEclock {s : State} {k : State → Result} {c : Platform} (h : NextInv (k s) c) :
    NextInv (guardEclock s k) c :=
  fun t ht => h t (guardEclock_eq_next.1 ht).2

/-! ## The shapes of the instructions -/

section Shapes
variable {s : State} {c : Platform} {len : Nat} {ea : Addr} (h : Sound s c)
include h

theorem Sound.nextInv_alu8 {rd : Reg8} {f : Byte → Ccr → Byte × Ccr} : NextInv (alu8 len rd f s) c :=
  h.setReg8.setCcr.nextInv_advance

theorem Sound.nextInv_alu16 {rd : Reg16} {f : Word → Ccr → Word × Ccr} : NextInv (alu16 len rd f s) c :=
  h.setReg16.setCcr.nextInv_advance

theorem Sound.nextInv_alu32 {erd : RegNum} {f : Long → Ccr → Long × Ccr} : NextInv (alu32 len erd f s) c :=
  h.setReg32.setCcr.nextInv_advance

theorem Sound.nextInv_flagsOnly {x : Ccr} : NextInv (flagsOnly len x s) c :=
  h.setCcr.nextInv_advance

theorem Sound.nextInv_load8 {rd : Reg8} : NextInv (load8 len ea rd s) c :=
  h.sawByte.setReg8.setCcr.nextInv_advance

theorem Sound.nextInv_load16 {rd : Reg16} : NextInv (load16 len ea rd s) c :=
  h.sawWord.setReg16.setCcr.nextInv_advance

theorem Sound.nextInv_load32 {erd : RegNum} : NextInv (load32 len ea erd s) c :=
  h.sawLong.setReg32.setCcr.nextInv_advance

theorem Sound.nextInv_store8 {rs : Reg8} : NextInv (store8 len ea rs s) c :=
  nextInv_guardNext h.writeByte.setCcr.nextInv_advance

theorem Sound.nextInv_store16 {rs : Reg16} : NextInv (store16 len ea rs s) c :=
  nextInv_guardNext h.writeWord.setCcr.nextInv_advance

theorem Sound.nextInv_store32 {ers : RegNum} : NextInv (store32 len ea ers s) c :=
  nextInv_guardNext h.writeLong.setCcr.nextInv_advance

theorem Sound.nextInv_store32LowFirst {ers : RegNum} : NextInv (store32LowFirst len ea ers s) c :=
  nextInv_guardNext h.writeLongLowFirst.setCcr.nextInv_advance

theorem Sound.nextInv_bitWriteReg {rd : Reg8} {f : Byte → Byte} : NextInv (bitWriteReg rd f s) c :=
  h.setReg8.nextInv_advance

theorem Sound.nextInv_bitWriteMem {f : Byte → Byte} : NextInv (bitWriteMem ea f s) c :=
  nextInv_guardNext h.sawByte.writeByte.nextInv_advance

theorem Sound.nextInv_bitReadReg {rd : Reg8} {f : Byte → Ccr → Ccr} : NextInv (bitReadReg rd f s) c :=
  h.nextInv_flagsOnly

theorem Sound.nextInv_bitReadMem {f : Byte → Ccr → Ccr} : NextInv (bitReadMem ea f s) c :=
  h.sawByte.nextInv_flagsOnly

theorem Sound.nextInv_branch {k : Cond} {d : Disp} : NextInv (branch k d s) c := by
  unfold branch
  split
  · exact h.nextInv_setPc
  · exact h.nextInv_advance

theorem Sound.nextInv_callTo {target : Addr} : NextInv (callTo len target s) c := by
  refine nextInv_guardSp ?_
  dsimp only
  split
  · exact nextInv_guardNext h.setReg32.writeWord.nextInv_setPc
  · exact nextInv_guardNext h.setReg32.writeWord.writeOdd.nextInv_setPc

theorem Sound.nextInv_returnFromCall : NextInv (returnFromCall s) c := by
  refine nextInv_guardSp ?_
  dsimp only
  split
  · exact h.sawWord.setReg32.nextInv_setPc
  · exact h.sawLong.setReg32.nextInv_setPc

theorem Sound.nextInv_writeCcr {x : Ccr} : NextInv (writeCcr len x s) c := by
  refine Sound.nextInv_advance ?_
  exact ⟨h.wf, h.cfg⟩

theorem Sound.nextInv_loadCcr : NextInv (loadCcr len ea s) c :=
  h.sawWord.nextInv_writeCcr

theorem Sound.nextInv_storeCcr : NextInv (storeCcr len ea s) c :=
  nextInv_guardNext h.writeEven.nextInv_advance

/-! ## Exceptions -/

/-- Exception entry stores the pc by `pc <- t`, after the frame is written (R358). -/
theorem Sound.inv_entered (v : Nat) (ret : Addr) : (s.entered v ret).inv ∧ (s.entered v ret).cfg = c :=
  h.setReg32.writeFrame.setCcr.sawEntry.inv_setPc

theorem Sound.nextInv_takeException {v : Nat} {ret : Addr} : NextInv (takeException v ret s) c :=
  nextInv_guardSp (nextInv_next (h.inv_entered v ret))

theorem Sound.nextInv_trap {x : BitVec 2} : NextInv (trap x s) c :=
  nextInv_guardSp (nextInv_guardNext h.nextInv_takeException)

theorem Sound.nextInv_returnFromException : NextInv (returnFromException s) c :=
  nextInv_guardSp h.sawLong.setReg32.setCcr.nextInv_setPc

/-- Reset exception handling writes no memory and stores the pc by `pc <- t` (R391). -/
theorem Sound.nextInv_resetException : NextInv (.next (resetException s)) c :=
  nextInv_next h.loseRegisters.setI.sawEntry.inv_setPc

/-! ## Block transfer -/

/-- EEPMOV's loop keeps memory canonical and the parameters, if its count-down does. -/
theorem Sound.of_copyBytes {countDown : State → State} (hd : ∀ u, Sound u c → Sound (countDown u) c) {k : Nat}
    {t : State} (ht : copyBytes countDown k s = .next t) : Sound t c := by
  refine copyBytes_induct (P := (Sound · c)) (fun u w hu hw => ?_) k s t h ht
  obtain ⟨-, rfl⟩ := copyByte_eq_next.1 hw
  exact hd _ hu.sawByte.writeByte.stepUp.stepUp

theorem Sound.nextInv_execEepmovB : NextInv (execEepmovB s) c :=
  nextInv_andThen fun _ hu => (h.sawEnds.of_copyBytes (fun _ hv => hv.setReg8) hu).nextInv_advance

theorem Sound.nextInv_blockMoveW : NextInv (blockMoveW s) c := by
  have copied {k : Nat} {u : State} (hu : copyBytes countDownW k s.sawEnds = .next u) : Sound u c :=
    h.sawEnds.of_copyBytes (countDown := countDownW) (fun _ hv => hv.setReg16) hu
  have whole {k : Nat} : NextInv (andThen (copyBytes countDownW k s.sawEnds) fun t => .next (t.advance 4)) c :=
    nextInv_andThen fun _ hu => (copied hu).nextInv_advance
  unfold blockMoveW
  dsimp only
  split
  · exact whole
  · split
    · refine nextInv_andThen fun u hu => Sound.nextInv_takeException ?_
      exact ⟨(copied hu).wf, (copied hu).cfg⟩
    · exact whole

end Shapes

/-! ## Every instruction -/

/-- An instruction that goes on stores the pc by `pc <- t` and every byte through the memory operations, so that the
canonical memory before it is all it asks. -/
theorem nextInv_exec {s : State} {c : Platform} (h : Sound s c) (i : Instr) : NextInv (exec i s) c := by
  cases i <;> dsimp only [exec]
  case movBRR | movBImm | addBImm | addBReg | subBReg | addxImm | addxReg | subxImm | subxReg | incB | decB | negB
      | andBImm | andBReg | orBImm | orBReg | xorBImm | xorBReg | notB | shalB | sharB | shllB | shlrB | rotlB | rotrB
      | rotxlB | rotxrB => exact h.nextInv_alu8
  case movWRR | movWImm | addWImm | addWReg | subWImm | subWReg | incW1 | incW2 | decW1 | decW2 | negW | extsW | extuW
      | andWImm | andWReg | orWImm | orWReg | xorWImm | xorWReg | notW | shalW | sharW | shllW | shlrW | rotlW | rotrW
      | rotxlW | rotxrW => exact h.nextInv_alu16
  case movLRR | movLImm | addLImm | addLReg | subLImm | subLReg | incL1 | incL2 | decL1 | decL2 | negL | extsL | extuL
      | andLImm | andLReg | orLImm | orLReg | xorLImm | xorLReg | notL | shalL | sharL | shllL | shlrL | rotlL | rotrL
      | rotxlL | rotxrL => exact h.nextInv_alu32
  case cmpBImm | cmpBReg | cmpWImm | cmpWReg | cmpLImm | cmpLReg => exact h.nextInv_flagsOnly
  case adds1 | adds2 | adds4 => exact h.stepUp.nextInv_advance
  case subs1 | subs2 | subs4 => exact h.stepDown.nextInv_advance
  case mulxuB => exact h.setReg16.nextInv_advance
  case mulxuW => exact h.setReg32.nextInv_advance
  case mulxsB => exact h.setReg16.setCcr.nextInv_advance
  case mulxsW => exact h.setReg32.setCcr.nextInv_advance
  case daa | das =>
    simp only [execDaa, execDas]
    split
    · exact h.drew.setReg8.setCcr.nextInv_advance
    · exact h.drew.setReg8.setCcr.nextInv_advance
  case divxuB | divxsB =>
    simp only [execDivxuB, execDivxsB]
    split
    · exact h.setCcr.setReg16.nextInv_advance
    · exact h.setCcr.drew.setReg16.nextInv_advance
  case divxuW | divxsW =>
    simp only [execDivxuW, execDivxsW]
    split
    · exact h.setCcr.setReg32.nextInv_advance
    · exact h.setCcr.drew.setReg32.nextInv_advance
  case movBLdInd | movBLdD16 | movBLdD24 | movBLdA8 | movBLdA16 | movBLdA24 => exact h.nextInv_load8
  case movWLdInd | movWLdD16 | movWLdD24 | movWLdA16 | movWLdA24 => exact h.nextInv_load16
  case movLLdInd | movLLdD16 | movLLdD24 | movLLdA16 | movLLdA24 => exact h.nextInv_load32
  case movBLdInc => exact h.stepUp.nextInv_load8
  case movWLdInc => exact nextInv_guardStackReg h.stepUp.nextInv_load16
  case movLLdInc => exact nextInv_guardStackReg h.stepUp.nextInv_load32
  case popW => exact nextInv_guardSp h.stepUp.nextInv_load16
  case popL => exact nextInv_guardSp h.stepUp.nextInv_load32
  case movfpe => exact nextInv_guardEclock h.nextInv_load8
  case movBStInd | movBStD16 | movBStD24 | movBStA8 | movBStA16 | movBStA24 => exact h.nextInv_store8
  case movWStInd | movWStD16 | movWStD24 | movWStA16 | movWStA24 => exact h.nextInv_store16
  case movLStInd | movLStD16 | movLStD24 | movLStA16 | movLStA24 => exact h.nextInv_store32
  case movBStDec => exact h.stepDown.nextInv_store8
  case movWStDec => exact nextInv_guardStackReg h.stepDown.nextInv_store16
  case movLStDec =>
    refine nextInv_guardStackReg ?_
    dsimp only
    split
    · exact h.stepDown.nextInv_store32LowFirst
    · exact h.stepDown.nextInv_store32
  case pushW => exact nextInv_guardSp h.stepDown.nextInv_store16
  case pushL => exact nextInv_guardSp h.stepDown.nextInv_store32LowFirst
  case movtpe => exact nextInv_guardEclock h.nextInv_store8
  case bsetImmReg | bsetRegReg | bclrImmReg | bclrRegReg | bnotImmReg | bnotRegReg | bstReg | bistReg =>
    exact h.nextInv_bitWriteReg
  case bsetImmInd | bsetImmAbs | bsetRegInd | bsetRegAbs | bclrImmInd | bclrImmAbs | bclrRegInd | bclrRegAbs
      | bnotImmInd | bnotImmAbs | bnotRegInd | bnotRegAbs | bstInd | bstAbs | bistInd | bistAbs =>
    exact h.nextInv_bitWriteMem
  case btstImmReg | btstRegReg | bandReg | biandReg | borReg | biorReg | bxorReg | bixorReg | bldReg | bildReg =>
    exact h.nextInv_bitReadReg
  case btstImmInd | btstImmAbs | btstRegInd | btstRegAbs | bandInd | bandAbs | biandInd | biandAbs | borInd | borAbs
      | biorInd | biorAbs | bxorInd | bxorAbs | bixorInd | bixorAbs | bldInd | bldAbs | bildInd | bildAbs =>
    exact h.nextInv_bitReadMem
  case bra | brn | bhi | bls | bcc | bcs | bne | beq | bvc | bvs | bpl | bmi | bge | blt | bgt | ble =>
    exact h.nextInv_branch
  case jmpInd | jmpAbs => exact h.nextInv_setPc
  case jmpMem => exact h.sawMemInd.nextInv_setPc
  case bsr | jsrInd | jsrAbs => exact h.nextInv_callTo
  case jsrMem => exact h.sawMemInd.nextInv_callTo
  case rts => exact h.nextInv_returnFromCall
  case ldcBImm | ldcBReg | andc | orc | xorc => exact h.nextInv_writeCcr
  case ldcWInd | ldcWD16 | ldcWD24 | ldcWA16 | ldcWA24 => exact h.nextInv_loadCcr
  case ldcWInc => exact h.stepUp.nextInv_loadCcr
  case stcBReg => exact h.setReg8.nextInv_advance
  case stcWInd | stcWD16 | stcWD24 | stcWA16 | stcWA24 => exact h.nextInv_storeCcr
  case stcWDec => exact h.stepDown.nextInv_storeCcr
  case rte => exact h.nextInv_returnFromException
  case trapa0 | trapa1 | trapa2 | trapa3 => exact h.nextInv_trap
  case sleep =>
    simp only [execSleep]
    split
    · exact nextInv_next h.inv_setPc
    · exact nextInv_next h.inv_setPc
  case nop => exact h.nextInv_advance
  case eepmovB => exact h.nextInv_execEepmovB
  case eepmovW => exact h.nextInv_blockMoveW

/-! ## The boundary and the events -/

theorem nextInv_boundary {s : State} (hs : s.inv) (pending : List IrqRequest) (cut : Option Nat) :
    NextInv (boundary pending cut s) s.cfg := by
  have sound : Sound s s.cfg := ⟨hs.1, rfl⟩
  intro t ht
  obtain ⟨-, hrun⟩ | ⟨r, hr⟩ | ⟨-, rfl⟩ | rfl := boundary_eq_next ht
  · obtain ⟨i, -, hi⟩ := runInstruction_eq_next.1 hrun
    exact nextInv_exec (s := { s with irqInhibit := false, nmiCut := cut }) ⟨sound.wf, rfl⟩ i t hi
  · exact sound.nextInv_takeException t hr
  · exact sound.nextInv_resetException _ rfl
  · exact ⟨hs, rfl⟩

theorem State.clobber_pc : ∀ (l : List Nat) (s : State), (s.clobber l).pc = s.pc
  | [], _ => rfl
  | _ :: t, s => (State.clobber_pc t _).trans (State.pokeFree_pc s _)

theorem State.clobber_cfg : ∀ (l : List Nat) (s : State), (s.clobber l).cfg = s.cfg
  | [], _ => rfl
  | _ :: t, s => (State.clobber_cfg t _).trans (State.pokeFree_cfg s _)

theorem State.busWrites_pc : ∀ (l : List Host.Cell) (s : State), (s.busWrites l).pc = s.pc
  | [], _ => rfl
  | _ :: t, s => (State.busWrites_pc t _).trans (State.poke_pc s _ _)

theorem State.busWrites_cfg : ∀ (l : List Host.Cell) (s : State), (s.busWrites l).cfg = s.cfg
  | [], _ => rfl
  | _ :: t, s => (State.busWrites_cfg t _).trans (State.poke_cfg s _ _)

/-- No event but a boundary moves the pc; RES low and the bus's return write memory through its operations. -/
theorem nextInv_onEvent {s : State} (hs : s.inv) (e : Event) : NextInv (onEvent e s) s.cfg := by
  have same : s.inv ∧ s.cfg = s.cfg := ⟨hs, rfl⟩
  cases e with
  | requests pending cut => exact nextInv_boundary hs pending cut
  | resLow aborted =>
    refine nextInv_next ?_
    unfold resLow
    split
    · exact same
    · exact inv_of_pc_eq hs (State.wf_clobber aborted hs.1) (State.clobber_pc aborted s) (State.clobber_cfg aborted s)
  | resHigh =>
    refine nextInv_next ?_
    unfold resHigh
    split
    · exact same
    · exact same
  | stbyLow => exact nextInv_next same
  | stbyHigh =>
    refine nextInv_next ?_
    unfold stbyHigh
    split
    · exact same
    · exact same
  | busRequest =>
    refine nextInv_next ?_
    unfold busRequest
    split
    · exact same
    · exact same
  | busReturn writes =>
    refine nextInv_next ?_
    unfold busReturn
    split
    · exact inv_of_pc_eq hs (State.wf_busWrites writes hs.1) (State.busWrites_pc writes s)
        (State.busWrites_cfg writes s)
    · exact same

/-- The event is consumed first; the list of events is no part of the invariant. -/
theorem nextInv_step {s : State} (hs : s.inv) : NextInv (step s) s.cfg := by
  unfold step
  split
  · exact nextInv_boundary hs [] none
  · next e rest _ => exact nextInv_onEvent (s := { s with inputs := rest }) hs e

/-- Settles O58: by cases on the event, the boundary and the instruction's shape; every path either keeps the pc or
stores it by `pc <- t`, and changes memory only through operations that keep its canonical form. -/
theorem stepKeepsInvariant : Obligations.StepKeepsInvariant :=
  fun _ t hs ht => nextInv_step hs t ht

end Sys2Proof.Machine
end

section
/-! SUPPORT. The registers' views, the addresses as numbers, and the boundary that takes no request. -/

namespace Sys2Proof.Machine

/-! ## The parts of a register (R21) -/

theorem long_eq_views (x : Long) : x = wordView x true ++ byteView x false ++ byteView x true := by
  ext i hi
  simp [wordView, byteView]
  grind

theorem wordView_low_eq_views (x : Long) : wordView x false = byteView x false ++ byteView x true := by
  ext i hi
  simp [wordView, byteView]
  grind

theorem wrote8_setReg8 (s : State) (rd : Reg8) (b : Byte) : wrote8 rd b s (s.setReg8 rd b) := by
  refine ⟨by simp, fun r hr => ?_, fun n => State.reg16_ext_setReg8 s rd b n⟩
  simp [hr]

theorem wrote16_setReg16 (s : State) (rd : Reg16) (w : Word) : wrote16 rd w s (s.setReg16 rd w) := by
  refine ⟨by simp, fun r hr => ?_⟩
  simp [hr]

theorem wrote32_setReg32 (s : State) (n : RegNum) (v : Long) : wrote32 n v s (s.setReg32 n v) := by
  refine ⟨by simp, fun r hr => ?_⟩
  simp [hr]

/-- Settles O6: the two concatenations bit by bit, the three writes by the laws of a read after a write. -/
theorem registerViews : Obligations.RegisterViews := fun s n rd8 b rd16 w v =>
  ⟨long_eq_views (s.reg32 n), wordView_low_eq_views (s.reg32 n), wrote8_setReg8 s rd8 b,
    wrote16_setReg16 s rd16 w, wrote32_setReg32 s n v⟩

/-! ## Addresses as numbers (R9, R26, R27) -/

/-- `2^AW`, the size of the mode's address space. -/
def State.addrSpan (s : State) : Nat :=
  match s.cfg.mode with
  | .normal => 2 ^ 16
  | .advanced => 2 ^ 24

theorem State.toNat_byteAddr (s : State) (a : Addr) : (s.byteAddr a).toNat = a.toNat % s.addrSpan := by
  unfold State.byteAddr State.amask State.addrSpan
  rw [BitVec.toNat_and]
  cases s.cfg.mode with
  | normal => exact Nat.and_two_pow_sub_one_eq_mod a.toNat 16
  | advanced => exact Nat.and_two_pow_sub_one_eq_mod a.toNat 24

/-- Clearing bit 0 rounds down to an even number. -/
theorem toNat_clearBit0 (a : Addr) : (a &&& 0xFFFFFE#24).toNat = a.toNat / 2 * 2 := by
  have hmask : 0xFFFFFE#24 = BitVec.allOnes 24 <<< 1 := by decide
  have hshift : a &&& BitVec.allOnes 24 <<< 1 = a >>> 1 <<< 1 := by
    ext i hi
    simp only [BitVec.getElem_and, BitVec.getElem_shiftLeft, BitVec.getElem_ushiftRight, BitVec.getElem_allOnes]
    grind
  rw [hmask, hshift, BitVec.toNat_shiftLeft, BitVec.toNat_ushiftRight, Nat.shiftLeft_eq, Nat.shiftRight_eq_div_pow]
  omega

theorem State.toNat_evenAddr (s : State) (a : Addr) : (s.evenAddr a).toNat = a.toNat % s.addrSpan / 2 * 2 := by
  rw [← State.toNat_byteAddr]
  exact toNat_clearBit0 (s.byteAddr a)

/-- `2^AW` divides the 24-bit adder's modulus, so that a sum may wrap there first. -/
theorem State.addrSpan_dvd (s : State) : s.addrSpan ∣ 2 ^ 24 := by
  unfold State.addrSpan
  cases s.cfg.mode with
  | normal => exact pow_dvd_pow 2 (by decide)
  | advanced => exact dvd_rfl

theorem State.toNat_nextPc (s : State) (len : Nat) :
    (s.nextPc len).toNat = (s.pc.toNat + len) % s.addrSpan / 2 * 2 := by
  have hsum : (s.pc + BitVec.ofNat 24 len).toNat % s.addrSpan = (s.pc.toNat + len) % s.addrSpan := by
    rw [BitVec.toNat_add, BitVec.toNat_ofNat, Nat.add_mod_mod, Nat.mod_mod_of_dvd _ s.addrSpan_dvd]
  rw [State.nextPc, State.toNat_evenAddr, hsum]

/-- Settles O9: the masks of R9 and R27 as a remainder and a rounding down; the updates write the pc alone. -/
theorem pcAssignment : Obligations.PcAssignment := fun s a len =>
  ⟨s.toNat_evenAddr a, s.toNat_nextPc len, rfl, rfl⟩

/-! ## Fetching and running at a boundary (R59, R73, R353) -/

/-- The fetch addresses count up from the pc with its bit 0 cleared, and wrap at `2^AW`. -/
theorem State.fetchAddr_eq (s : State) (k : Nat) :
    s.fetchAddr k = BitVec.ofNat 24 ((s.pc.toNat / 2 * 2 + k) % s.addrSpan) := by
  refine BitVec.eq_of_toNat_eq ?_
  rw [State.fetchAddr, State.toNat_byteAddr, BitVec.toNat_add, BitVec.toNat_ofNat, BitVec.toNat_ofNat,
    State.toNat_evenAddr]
  unfold State.addrSpan
  cases s.cfg.mode with
  | normal => dsimp only; omega
  | advanced => dsimp only; omega

theorem State.select_eq_none {s : State} :
    ∀ {p : List IrqRequest}, (∀ r ∈ p, s.accepts r = false) → s.select p = none
  | [], _ => rfl
  | r :: rs, h => by
    obtain ⟨hr, hrs⟩ := List.forall_mem_cons.1 h
    simp [State.select, State.select_eq_none hrs, hr]

/-- A boundary of program execution that is inhibited, or at which no request passes the mask test, runs the
instruction at the pc (R353). -/
theorem boundary_of_none_taken {p : List IrqRequest} {cut : Option Nat} {s : State}
    (hs : s.pstate = .programExecution) (h : s.irqInhibit = true ∨ ∀ r ∈ p, s.accepts r = false) :
    boundary p cut s = runInstruction cut s := by
  unfold boundary
  rw [hs]
  rcases h with hi | hp
  · simp [hi]
  · simp [State.select_eq_none hp]

theorem runInstruction_of_fetch {cut : Option Nat} {s : State} {i : Instr} (h : s.fetch = some i) :
    runInstruction cut s = exec i { s with irqInhibit := false, nmiCut := cut } := by
  simp [runInstruction, h]

theorem step_of_no_event {s : State} (h : s.inputs = []) : step s = boundary [] none s := by
  simp [step, h]

theorem step_of_event {s : State} {e : Event} {rest : List Event} (h : s.inputs = e :: rest) :
    step s = onEvent e { s with inputs := rest } := by
  simp [step, h]

/-- Settles O5: the fetch addresses as numbers; then an event in store, or none, is a boundary that takes no request. -/
theorem stepRunsDecodedInstruction : Obligations.StepRunsDecodedInstruction := by
  refine ⟨fun s => ?_, fun s i hs hi => ⟨fun hin => ?_, fun pending cut rest hin hnone => ?_⟩⟩
  · simp only [State.fetch, State.fetchBytes, State.fetchAddr_eq]
    rfl
  · have hboundary : boundary [] none s = runInstruction none s := boundary_of_none_taken hs (.inr (by simp))
    rw [step_of_no_event hin, hboundary, runInstruction_of_fetch hi]
  · rw [step_of_event hin]
    exact (boundary_of_none_taken (s := { s with inputs := rest }) hs hnone).trans (runInstruction_of_fetch hi)

end Sys2Proof.Machine
end

section
/-! SUPPORT. Who writes the mask bits I and UI, the user bit U and the inhibit: what an outcome does to them, for each
shape of instruction, then for `exec`. -/

namespace Sys2Proof.Machine

/-- I, UI, U and the inhibit, with the product's parameters, which say whether UI is a mask bit (R29, R30, R32, R40). -/
structure Masks where
  i : Bool
  ui : Bool
  u : Bool
  irqInhibit : Bool
  cfg : Platform

def State.masks (s : State) : Masks :=
  { i := s.ccr.i, ui := s.ccr.ui, u := s.ccr.u, irqInhibit := s.irqInhibit, cfg := s.cfg }

/-- The masks after exception entry (R361). -/
def Masks.entered (m : Masks) : Masks := { m with i := true, ui := m.cfg.uiIsMask || m.ui }

/-- `c` and `d` differ in H, N, Z, V, C at most. -/
def Ccr.sameMasks (c d : Ccr) : Prop := c.i = d.i ∧ c.ui = d.ui ∧ c.u = d.u

/-- If the outcome goes on, then to a state with the masks `m`. -/
def NextMasks (o : Result) (m : Masks) : Prop := ∀ t, o = .next t → t.masks = m

theorem nextMasks_next {t : State} {m : Masks} (h : t.masks = m) : NextMasks (.next t) m := by
  intro u hu
  cases hu
  exact h

/-! ## The masks after an operation on the state -/

theorem State.masks_congr {s t : State} (hc : t.ccr = s.ccr) (hi : t.irqInhibit = s.irqInhibit) (hg : t.cfg = s.cfg) :
    t.masks = s.masks := by
  simp [State.masks, hc, hi, hg]

theorem State.masks_setCcr {s : State} {c : Ccr} (h : c.sameMasks s.ccr) : (s.setCcr c).masks = s.masks := by
  obtain ⟨hi, hui, hu⟩ := h
  simp [State.masks, hi, hui, hu]

@[simp] theorem Ccr.sameMasks_nzv0 {w : Nat} (c : Ccr) (v : BitVec w) : (c.nzv0 v).sameMasks c := ⟨rfl, rfl, rfl⟩

@[simp] theorem State.masks_setReg32 (s : State) (n : RegNum) (v : Long) : (s.setReg32 n v).masks = s.masks := rfl
@[simp] theorem State.masks_setReg16 (s : State) (r : Reg16) (v : Word) : (s.setReg16 r v).masks = s.masks := rfl
@[simp] theorem State.masks_setReg8 (s : State) (r : Reg8) (v : Byte) : (s.setReg8 r v).masks = s.masks := rfl
@[simp] theorem State.masks_stepUp (s : State) (n : RegNum) (k : Long) : (s.stepUp n k).masks = s.masks := rfl
@[simp] theorem State.masks_setPc (s : State) (a : Addr) : (s.setPc a).masks = s.masks := rfl
@[simp] theorem State.masks_advance (s : State) (k : Nat) : (s.advance k).masks = s.masks := rfl
@[simp] theorem State.masks_sawByte (s : State) (a : Addr) : (s.sawByte a).masks = s.masks := rfl
@[simp] theorem State.masks_sawWord (s : State) (a : Addr) : (s.sawWord a).masks = s.masks := rfl
@[simp] theorem State.masks_sawLong (s : State) (a : Addr) : (s.sawLong a).masks = s.masks := rfl
@[simp] theorem State.masks_sawEnds (s : State) : s.sawEnds.masks = s.masks := rfl

@[simp] theorem State.masks_sawMemInd (s : State) (aa : BitVec 8) : (s.sawMemInd aa).masks = s.masks :=
  State.masks_congr (by simp) (by simp) (by simp)
@[simp] theorem State.masks_writeByte (s : State) (a : Addr) (v : Byte) : (s.writeByte a v).masks = s.masks :=
  State.masks_congr (by simp) (by simp) (by simp)
@[simp] theorem State.masks_writeWord (s : State) (a : Addr) (v : Word) : (s.writeWord a v).masks = s.masks :=
  State.masks_congr (by simp) (by simp) (by simp)
@[simp] theorem State.masks_writeLong (s : State) (a : Addr) (v : Long) : (s.writeLong a v).masks = s.masks :=
  State.masks_congr (by simp) (by simp) (by simp)
@[simp] theorem State.masks_writeLongLowFirst (s : State) (a : Addr) (v : Long) :
    (s.writeLongLowFirst a v).masks = s.masks :=
  State.masks_congr (by simp) (by simp) (by simp)
@[simp] theorem State.masks_writeEven (s : State) (a : Addr) (v : Byte) : (s.writeEven a v).masks = s.masks :=
  State.masks_congr (by simp) (by simp) (by simp)
@[simp] theorem State.masks_writeOdd (s : State) (a : Addr) (v : Byte) : (s.writeOdd a v).masks = s.masks :=
  State.masks_congr (by simp) (by simp) (by simp)

/-- Exception entry sets I, and UI where it is a mask bit, and leaves U and the inhibit (R361). -/
theorem State.masks_entered (s : State) (v : Nat) (ret : Addr) : (s.entered v ret).masks = s.masks.entered := by
  simp [State.masks, Masks.entered, State.maskedCcr]

/-! ## Sequencing and guards -/

theorem nextMasks_andThen {o : Result} {f : State → Result} {m : Masks}
    (h : ∀ u, o = .next u → NextMasks (f u) m) : NextMasks (andThen o f) m := by
  intro t ht
  obtain ⟨u, hu, hf⟩ := andThen_eq_next.1 ht
  exact h u hu t hf

theorem nextMasks_guardSp {s : State} {k : State → Result} {m : Masks} (h : NextMasks (k s) m) :
    NextMasks (guardSp s k) m :=
  fun t ht => h t (guardSp_eq_next.1 ht).2

theorem nextMasks_guardNext {len : Nat} {ws : List Addr} {s : State} {k : State → Result} {m : Masks}
    (h : NextMasks (k s) m) : NextMasks (guardNext len ws s k) m :=
  fun t ht => h t (guardNext_eq_next.1 ht).2

theorem nextMasks_guardStackReg {n : RegNum} {s : State} {k : State → Result} {m : Masks} (h : NextMasks (k s) m) :
    NextMasks (guardStackReg n s k) m :=
  fun t ht => h t (guardStackReg_eq_next.1 ht).2

theorem nextMasks_guardEclock {s : State} {k : State → Result} {m : Masks} (h : NextMasks (k s) m) :
    NextMasks (guardEclock s k) m :=
  fun t ht => h t (guardEclock_eq_next.1 ht).2

/-! ## The shapes of the instructions -/

/-- The end of an instruction that writes some of H, N, Z, V, C. -/
theorem nextMasks_flagged {u : State} {m : Masks} {c : Ccr} {len : Nat} (hu : u.masks = m) (hc : c.sameMasks u.ccr) :
    NextMasks (.next ((u.setCcr c).advance len)) m :=
  nextMasks_next ((State.masks_setCcr hc).trans hu)

section Shapes
variable {s : State} {len : Nat} {ea : Addr}

theorem nextMasks_alu8 {rd : Reg8} {f : Byte → Ccr → Byte × Ccr} (hf : ∀ d c, (f d c).2.sameMasks c) :
    NextMasks (alu8 len rd f s) s.masks :=
  nextMasks_flagged (by simp) (hf _ _)

theorem nextMasks_alu16 {rd : Reg16} {f : Word → Ccr → Word × Ccr} (hf : ∀ d c, (f d c).2.sameMasks c) :
    NextMasks (alu16 len rd f s) s.masks :=
  nextMasks_flagged (by simp) (hf _ _)

theorem nextMasks_alu32 {erd : RegNum} {f : Long → Ccr → Long × Ccr} (hf : ∀ d c, (f d c).2.sameMasks c) :
    NextMasks (alu32 len erd f s) s.masks :=
  nextMasks_flagged (by simp) (hf _ _)

theorem nextMasks_flagsOnly {c : Ccr} (hc : c.sameMasks s.ccr) : NextMasks (flagsOnly len c s) s.masks :=
  nextMasks_flagged rfl hc

theorem nextMasks_load8 {rd : Reg8} : NextMasks (load8 len ea rd s) s.masks :=
  nextMasks_flagged (by simp) (by simp)

theorem nextMasks_load16 {rd : Reg16} : NextMasks (load16 len ea rd s) s.masks :=
  nextMasks_flagged (by simp) (by simp)

theorem nextMasks_load32 {erd : RegNum} : NextMasks (load32 len ea erd s) s.masks :=
  nextMasks_flagged (by simp) (by simp)

theorem nextMasks_store8 {rs : Reg8} : NextMasks (store8 len ea rs s) s.masks :=
  nextMasks_guardNext (nextMasks_flagged (by simp) (by simp))

theorem nextMasks_store16 {rs : Reg16} : NextMasks (store16 len ea rs s) s.masks :=
  nextMasks_guardNext (nextMasks_flagged (by simp) (by simp))

theorem nextMasks_store32 {ers : RegNum} : NextMasks (store32 len ea ers s) s.masks :=
  nextMasks_guardNext (nextMasks_flagged (by simp) (by simp))

theorem nextMasks_store32LowFirst {ers : RegNum} : NextMasks (store32LowFirst len ea ers s) s.masks :=
  nextMasks_guardNext (nextMasks_flagged (by simp) (by simp))

theorem nextMasks_storeCcr : NextMasks (storeCcr len ea s) s.masks :=
  nextMasks_guardNext (nextMasks_next (by simp))

theorem nextMasks_bitWriteReg {rd : Reg8} {f : Byte → Byte} : NextMasks (bitWriteReg rd f s) s.masks :=
  nextMasks_next (by simp)

theorem nextMasks_bitWriteMem {f : Byte → Byte} : NextMasks (bitWriteMem ea f s) s.masks :=
  nextMasks_guardNext (nextMasks_next (by simp))

theorem nextMasks_bitReadReg {rd : Reg8} {f : Byte → Ccr → Ccr} (hf : ∀ b c, (f b c).sameMasks c) :
    NextMasks (bitReadReg rd f s) s.masks :=
  nextMasks_flagsOnly (hf _ _)

theorem nextMasks_bitReadMem {f : Byte → Ccr → Ccr} (hf : ∀ b c, (f b c).sameMasks c) :
    NextMasks (bitReadMem ea f s) s.masks :=
  nextMasks_flagsOnly (s := s.sawByte ea) (hf _ _)

theorem nextMasks_branch {k : Cond} {d : Disp} : NextMasks (branch k d s) s.masks := by
  unfold branch
  split
  · exact nextMasks_next (by simp)
  · exact nextMasks_next (by simp)

theorem nextMasks_callTo {target : Addr} : NextMasks (callTo len target s) s.masks := by
  refine nextMasks_guardSp ?_
  dsimp only
  split
  · exact nextMasks_guardNext (nextMasks_next (by simp))
  · exact nextMasks_guardNext (nextMasks_next (by simp))

theorem nextMasks_returnFromCall : NextMasks (returnFromCall s) s.masks := by
  refine nextMasks_guardSp ?_
  dsimp only
  split
  · exact nextMasks_next (by simp)
  · exact nextMasks_next (by simp)

end Shapes

/-! ## Exceptions -/

theorem nextMasks_takeException {s : State} {v : Nat} {ret : Addr} :
    NextMasks (takeException v ret s) s.masks.entered :=
  nextMasks_guardSp (nextMasks_next (s.masks_entered v ret))

theorem nextMasks_trap {s : State} {x : BitVec 2} : NextMasks (trap x s) s.masks.entered :=
  nextMasks_guardSp (nextMasks_guardNext nextMasks_takeException)

/-- RTE writes the whole CCR, and not the inhibit (R311). -/
theorem irqInhibit_of_returnFromException {s t : State} (h : returnFromException s = .next t) :
    t.irqInhibit = s.irqInhibit := by
  obtain ⟨-, rfl⟩ := returnFromException_eq_next.1 h
  simp

/-! ## Block transfer -/

/-- EEPMOV's dummy reads and loop keep the masks, if its count-down does. -/
theorem masks_of_copyBytes {countDown : State → State} (hd : ∀ u, (countDown u).masks = u.masks) {k : Nat}
    {s t : State} (ht : copyBytes countDown k s.sawEnds = .next t) : t.masks = s.masks := by
  refine copyBytes_induct (P := fun u => u.masks = s.masks) (fun u w hu hw => ?_) k s.sawEnds t s.masks_sawEnds ht
  obtain ⟨-, rfl⟩ := copyByte_eq_next.1 hw
  simp [hd, hu]

theorem masks_countDownB (s : State) : (countDownB s).masks = s.masks := s.masks_setReg8 _ _

theorem masks_countDownW (s : State) : (countDownW s).masks = s.masks := s.masks_setReg16 _ _

/-- The whole copy, which EEPMOV.B makes, and EEPMOV.W where it is not cut. -/
theorem nextMasks_copyAll {countDown : State → State} (hd : ∀ u, (countDown u).masks = u.masks) {k : Nat} {s : State} :
    NextMasks (andThen (copyBytes countDown k s.sawEnds) fun t => .next (t.advance 4)) s.masks :=
  nextMasks_andThen fun u hu => nextMasks_next ((u.masks_advance 4).trans (masks_of_copyBytes hd hu))

/-- An NMI is noted that arrives after one of the bytes 1 to n of an EEPMOV.W (R342, D23). -/
def State.cutByNmi (s : State) : Prop :=
  ∃ k, s.nmiCut = some k ∧ 1 ≤ k ∧ k ≤ (s.reg16 r4).toNat

theorem nextMasks_blockMoveW_of_not_cut {s : State} (h : ¬ s.cutByNmi) : NextMasks (blockMoveW s) s.masks := by
  unfold blockMoveW
  dsimp only
  split
  · exact nextMasks_copyAll masks_countDownW
  · next k hk =>
    rw [if_neg fun hcut => h ⟨k, hk, hcut⟩]
    exact nextMasks_copyAll masks_countDownW

/-- The NMI's exception entry that ends an EEPMOV.W which is cut. -/
theorem nextMasks_blockMoveW_of_cut {s : State} (h : s.cutByNmi) : NextMasks (blockMoveW s) s.masks.entered := by
  obtain ⟨k, hk, hcut⟩ := h
  simp only [blockMoveW, hk, if_pos hcut]
  refine nextMasks_andThen fun u hu => ?_
  rw [← masks_of_copyBytes masks_countDownW hu]
  exact nextMasks_takeException (s := u.advance 4)

/-! ## Every instruction -/

/-- LDC, ANDC, ORC, XORC: the instructions that write the whole CCR and set the inhibit (R323). -/
def writesCcr : Instr → Bool
  | .ldcBImm _ | .ldcBReg _ | .ldcWInd _ | .ldcWD16 _ _ | .ldcWD24 _ _ | .ldcWInc _ | .ldcWA16 _ | .ldcWA24 _
  | .andc _ | .orc _ | .xorc _ => true
  | _ => false

/-- The TRAPA instructions (R312). -/
def trapas : List Instr := [.trapa0, .trapa1, .trapa2, .trapa3]

/-- An instruction that is none of LDC, ANDC, ORC, XORC, RTE, TRAPA, EEPMOV.W keeps I, UI, U and the inhibit. -/
theorem nextMasks_exec {i : Instr} (hccr : writesCcr i = false) (hrte : i ≠ .rte) (htrap : i ∉ trapas)
    (hmove : i ≠ .eepmovW) (s : State) : NextMasks (exec i s) s.masks := by
  cases i <;> dsimp only [exec]
  case ldcBImm | ldcBReg | ldcWInd | ldcWD16 | ldcWD24 | ldcWInc | ldcWA16 | ldcWA24 | andc | orc | xorc =>
    exact absurd hccr (by simp [writesCcr])
  case rte => exact absurd rfl hrte
  case trapa0 | trapa1 | trapa2 | trapa3 => exact absurd (by simp [trapas]) htrap
  case eepmovW => exact absurd rfl hmove
  case movBRR | movBImm | addBImm | addBReg | subBReg | addxImm | addxReg | subxImm | subxReg | incB | decB | negB
      | andBImm | andBReg | orBImm | orBReg | xorBImm | xorBReg | notB | shalB | sharB | shllB | shlrB | rotlB | rotrB
      | rotxlB | rotxrB => exact nextMasks_alu8 fun _ _ => ⟨rfl, rfl, rfl⟩
  case movWRR | movWImm | addWImm | addWReg | subWImm | subWReg | incW1 | incW2 | decW1 | decW2 | negW | extsW | extuW
      | andWImm | andWReg | orWImm | orWReg | xorWImm | xorWReg | notW | shalW | sharW | shllW | shlrW | rotlW | rotrW
      | rotxlW | rotxrW => exact nextMasks_alu16 fun _ _ => ⟨rfl, rfl, rfl⟩
  case movLRR | movLImm | addLImm | addLReg | subLImm | subLReg | incL1 | incL2 | decL1 | decL2 | negL | extsL | extuL
      | andLImm | andLReg | orLImm | orLReg | xorLImm | xorLReg | notL | shalL | sharL | shllL | shlrL | rotlL | rotrL
      | rotxlL | rotxrL => exact nextMasks_alu32 fun _ _ => ⟨rfl, rfl, rfl⟩
  case cmpBImm | cmpBReg | cmpWImm | cmpWReg | cmpLImm | cmpLReg => exact nextMasks_flagsOnly ⟨rfl, rfl, rfl⟩
  case adds1 | adds2 | adds4 | subs1 | subs2 | subs4 | mulxuB | mulxuW | stcBReg | nop
      | mulxsB | mulxsW => exact nextMasks_next rfl
  case daa | das =>
    simp only [execDaa, execDas]
    split
    · exact nextMasks_next rfl
    · exact nextMasks_next rfl
  case divxuB | divxsB | divxuW | divxsW =>
    simp only [execDivxuB, execDivxsB, execDivxuW, execDivxsW]
    split
    · exact nextMasks_next rfl
    · exact nextMasks_next rfl
  case movBLdInd | movBLdD16 | movBLdD24 | movBLdA8 | movBLdA16 | movBLdA24 => exact nextMasks_load8
  case movWLdInd | movWLdD16 | movWLdD24 | movWLdA16 | movWLdA24 => exact nextMasks_load16
  case movLLdInd | movLLdD16 | movLLdD24 | movLLdA16 | movLLdA24 => exact nextMasks_load32
  case movBLdInc ers _ => exact nextMasks_load8 (s := s.stepUp ers _)
  case movWLdInc => exact nextMasks_guardStackReg (nextMasks_load16 (s := s.stepUp _ _))
  case movLLdInc => exact nextMasks_guardStackReg (nextMasks_load32 (s := s.stepUp _ _))
  case popW => exact nextMasks_guardSp (nextMasks_load16 (s := s.stepUp _ _))
  case popL => exact nextMasks_guardSp (nextMasks_load32 (s := s.stepUp _ _))
  case movfpe => exact nextMasks_guardEclock nextMasks_load8
  case movBStInd | movBStD16 | movBStD24 | movBStA8 | movBStA16 | movBStA24 => exact nextMasks_store8
  case movWStInd | movWStD16 | movWStD24 | movWStA16 | movWStA24 => exact nextMasks_store16
  case movLStInd | movLStD16 | movLStD24 | movLStA16 | movLStA24 => exact nextMasks_store32
  case movBStDec => exact nextMasks_store8 (s := s.stepDown _ _)
  case movWStDec => exact nextMasks_guardStackReg (nextMasks_store16 (s := s.stepDown _ _))
  case movLStDec =>
    refine nextMasks_guardStackReg ?_
    dsimp only
    split
    · exact nextMasks_store32LowFirst (s := s.stepDown _ _)
    · exact nextMasks_store32 (s := s.stepDown _ _)
  case pushW => exact nextMasks_guardSp (nextMasks_store16 (s := s.stepDown _ _))
  case pushL => exact nextMasks_guardSp (nextMasks_store32LowFirst (s := s.stepDown _ _))
  case movtpe => exact nextMasks_guardEclock nextMasks_store8
  case bsetImmReg | bsetRegReg | bclrImmReg | bclrRegReg | bnotImmReg | bnotRegReg | bstReg | bistReg =>
    exact nextMasks_bitWriteReg
  case bsetImmInd | bsetImmAbs | bsetRegInd | bsetRegAbs | bclrImmInd | bclrImmAbs | bclrRegInd | bclrRegAbs
      | bnotImmInd | bnotImmAbs | bnotRegInd | bnotRegAbs | bstInd | bstAbs | bistInd | bistAbs =>
    exact nextMasks_bitWriteMem
  case btstImmReg | btstRegReg | bandReg | biandReg | borReg | biorReg | bxorReg | bixorReg | bldReg | bildReg =>
    exact nextMasks_bitReadReg fun _ _ => ⟨rfl, rfl, rfl⟩
  case btstImmInd | btstImmAbs | btstRegInd | btstRegAbs | bandInd | bandAbs | biandInd | biandAbs | borInd | borAbs
      | biorInd | biorAbs | bxorInd | bxorAbs | bixorInd | bixorAbs | bldInd | bldAbs | bildInd | bildAbs =>
    exact nextMasks_bitReadMem fun _ _ => ⟨rfl, rfl, rfl⟩
  case bra | brn | bhi | bls | bcc | bcs | bne | beq | bvc | bvs | bpl | bmi | bge | blt | bgt | ble =>
    exact nextMasks_branch
  case jmpInd | jmpAbs => exact nextMasks_next rfl
  case jmpMem aa => exact nextMasks_next (s.masks_sawMemInd aa)
  case bsr | jsrInd | jsrAbs => exact nextMasks_callTo
  case jsrMem aa =>
    rw [← s.masks_sawMemInd aa]
    exact nextMasks_callTo
  case rts => exact nextMasks_returnFromCall
  case stcWInd | stcWD16 | stcWD24 | stcWA16 | stcWA24 => exact nextMasks_storeCcr
  case stcWDec => exact nextMasks_storeCcr (s := s.stepDown _ _)
  case sleep =>
    simp only [execSleep]
    split
    · exact nextMasks_next rfl
    · exact nextMasks_next rfl
  case eepmovB => exact nextMasks_copyAll masks_countDownB

/-- The list of the obligation, with its operands left open, holds every instruction that writes the CCR so. -/
theorem writesCcr_eq_false {i : Instr}
    (h : ∀ (rs : Reg8) (ers : RegNum) (b : Byte) (d16 a16 : BitVec 16) (d24 a24 : BitVec 24),
      i ∉ [.ldcBImm b, .ldcBReg rs, .ldcWInd ers, .ldcWD16 d16 ers, .ldcWD24 d24 ers, .ldcWInc ers, .ldcWA16 a16,
        .ldcWA24 a24, .andc b, .orc b, .xorc b]) : writesCcr i = false := by
  cases i
  case ldcBImm b | andc b | orc b | xorc b => exact absurd (by simp) (h r4l .r0 b 0 0 0 0)
  case ldcBReg rs => exact absurd (by simp) (h rs .r0 0 0 0 0 0)
  case ldcWInd ers | ldcWInc ers => exact absurd (by simp) (h r4l ers 0 0 0 0 0)
  case ldcWD16 d16 ers => exact absurd (by simp) (h r4l ers 0 d16 0 0 0)
  case ldcWD24 d24 ers => exact absurd (by simp) (h r4l ers 0 0 0 d24 0)
  case ldcWA16 a16 => exact absurd (by simp) (h r4l .r0 0 0 a16 0 0)
  case ldcWA24 a24 => exact absurd (by simp) (h r4l .r0 0 0 0 0 a24)
  all_goals rfl

/-- What the obligation says of an instruction other than RTE, read off the masks. -/
theorem maskBits_of_masks {s t : State} {enters : Prop} (hkept : ¬ enters → t.masks = s.masks)
    (henter : enters → t.masks = s.masks.entered) :
    t.irqInhibit = s.irqInhibit ∧ t.ccr.u = s.ccr.u ∧ (¬ enters → t.ccr.i = s.ccr.i ∧ t.ccr.ui = s.ccr.ui) ∧
      (enters → t.ccr.i = true ∧ t.ccr.ui = (s.cfg.uiIsMask || s.ccr.ui)) := by
  simp only [State.masks, Masks.entered, Masks.mk.injEq] at hkept henter
  by_cases he : enters
  · obtain ⟨hi, hui, hu, hinh, -⟩ := henter he
    exact ⟨hinh, hu, fun hn => absurd he hn, fun _ => ⟨hi, hui⟩⟩
  · obtain ⟨hi, hui, hu, hinh, -⟩ := hkept he
    exact ⟨hinh, hu, fun _ => ⟨hi, hui⟩, fun hp => absurd hp he⟩

/-- Exception handling is entered by TRAPA, and by an EEPMOV.W that an NMI cuts. -/
def entersException (i : Instr) (s : State) : Prop := i ∈ trapas ∨ i = .eepmovW ∧ s.cutByNmi

theorem nextMasks_exec_of_entersException {i : Instr} {s : State} (h : entersException i s) :
    NextMasks (exec i s) s.masks.entered := by
  rcases h with htrap | ⟨rfl, hcut⟩
  · simp only [trapas, List.mem_cons, List.not_mem_nil, or_false] at htrap
    rcases htrap with rfl | rfl | rfl | rfl
    all_goals exact nextMasks_trap
  · exact nextMasks_blockMoveW_of_cut hcut

theorem nextMasks_exec_of_not_entersException {i : Instr} {s : State} (hccr : writesCcr i = false) (hrte : i ≠ .rte)
    (h : ¬ entersException i s) : NextMasks (exec i s) s.masks := by
  by_cases hmove : i = .eepmovW
  · subst hmove
    exact nextMasks_blockMoveW_of_not_cut fun hcut => h (.inr ⟨rfl, hcut⟩)
  · exact nextMasks_exec hccr hrte (fun htrap => h (.inl htrap)) hmove s

/-- Settles O60: RTE apart, an instruction that does not write the CCR leaves the masks as they were, or as exception
entry makes them. -/
theorem maskBitsAndInhibit : Obligations.MaskBitsAndInhibit := by
  intro i s t ht hlist
  have hccr := writesCcr_eq_false hlist
  by_cases hrte : i = .rte
  · subst hrte
    exact ⟨irqInhibit_of_returnFromException ht, fun hne => absurd rfl hne⟩
  · obtain ⟨hinh, hrest⟩ := maskBits_of_masks (enters := entersException i s)
      (fun hn => nextMasks_exec_of_not_entersException hccr hrte hn t ht)
      (fun he => nextMasks_exec_of_entersException he t ht)
    exact ⟨hinh, fun _ => hrest⟩

end Sys2Proof.Machine
end

section
/-! SUPPORT. The stores as the claims' words say them (`stored8` to `stored32LowFirst`), and reading back what was
stored. -/

namespace Sys2Proof.Machine

/-! ## The four bytes of a long word (R57, R58) -/

/-- The bytes of the words at `a` and `a + 2` have four addresses: the words are even addresses two apart, and the
smaller address space is a multiple of 4. -/
theorem State.longBytes_distinct (s : State) (a : Addr) :
    s.evenAddr a ≠ s.evenAddr a + 1#24 ∧ s.evenAddr (a + 2#24) ≠ s.evenAddr (a + 2#24) + 1#24 ∧
      s.evenAddr a ≠ s.evenAddr (a + 2#24) ∧ s.evenAddr a ≠ s.evenAddr (a + 2#24) + 1#24 ∧
      s.evenAddr a + 1#24 ≠ s.evenAddr (a + 2#24) ∧ s.evenAddr a + 1#24 ≠ s.evenAddr (a + 2#24) + 1#24 := by
  have hlow := s.toNat_evenAddr a
  have hhigh := s.toNat_evenAddr (a + 2#24)
  have hspan : s.addrSpan = 2 ^ 16 ∨ s.addrSpan = 2 ^ 24 := by
    unfold State.addrSpan
    cases s.cfg.mode with
    | normal => exact .inl rfl
    | advanced => exact .inr rfl
  rcases hspan with hspan | hspan
  · rw [hspan] at hlow hhigh
    bv_omega
  · rw [hspan] at hlow hhigh
    bv_omega

/-! ## One access (R56, R57) -/

/-- `State.peek_poke` and `State.peek_pokeFree` ask whether the byte written is RAM; the claims ask it of the byte read,
which is the same one. -/
theorem eq_and_writable_iff (s : State) (a b : Addr) :
    (b = a ∧ s.writable a = true) ↔ (b = a ∧ s.writable b = true) :=
  and_congr_right fun h => by rw [h]

theorem stored8_writeByte {s : State} (h : s.mem.wf) (a : Addr) (v : Byte) : stored8 a v s (s.writeByte a v) := by
  refine ⟨by simp, fun b hb => ?_⟩
  have hsteady : (s.poke (s.byteAddr a) v).steady b = true := by
    rw [State.steady_congr (State.poke_cfg s _ _), hb]
  simp only [State.writeByte, State.peek_noted _ hsteady, State.peek_poke h, eq_and_writable_iff]

/-- The two bytes of a word written, the even one first: what `peek` then gives is what `stored16` says. -/
theorem stored16_of_peek {s t : State} {a : Addr} {v : Word} {x : Access} (hx : x = .writeWord (s.evenAddr a) v)
    (hcfg : t.cfg = s.cfg) (htrace : t.trace = s.trace)
    (hpeek : ∀ b, t.peek b = if b = s.evenAddr a + 1#24 ∧ s.writable b = true then v.extractLsb' 0 8
      else if b = s.evenAddr a ∧ s.writable b = true then v.extractLsb' 8 8 else s.peek b) :
    stored16 a v s (t.noted x) := by
  refine ⟨by simp [hx, htrace], fun b hb => ?_⟩
  rw [State.peek_noted _ (by rw [State.steady_congr hcfg, hb]), hpeek]
  have hne := (s.longBytes_distinct a).1
  by_cases he : b = s.evenAddr a
  · subst he
    simp [hne]
  · simp [he]

theorem stored16_writeWord {s : State} (h : s.mem.wf) (a : Addr) (v : Word) : stored16 a v s (s.writeWord a v) := by
  refine stored16_of_peek rfl (by simp) (by simp) fun b => ?_
  simp only [State.peek_poke (State.wf_poke h _ _), State.peek_poke h, eq_and_writable_iff,
    State.writable_congr (State.poke_cfg s _ _)]

/-- STC.W's store and the normal mode's first word of an exception frame: the odd byte is a free one (R318, R360). -/
theorem stored16_writeEven {s : State} (h : s.mem.wf) (a : Addr) (b : Byte) :
    stored16 a (b ++ Config.freeByte s.draws) s (s.writeEven a b) := by
  refine stored16_of_peek rfl (by simp) (by simp) fun c => ?_
  simp only [State.peek_pokeFree (State.wf_poke h _ _), State.peek_poke h, eq_and_writable_iff,
    State.writable_congr (State.poke_cfg s _ _), State.poke_draws, BitVec.extractLsb'_append_eq_left,
    BitVec.extractLsb'_append_eq_right]

/-! ## Two accesses (R58, R153) -/

/-- A field of a field is a field of the whole. -/
theorem extractLsb'_extractLsb' {w : Nat} (x : BitVec w) {i l j k : Nat} (h : j + k ≤ l) :
    (x.extractLsb' i l).extractLsb' j k = x.extractLsb' (i + j) k := by
  ext b hb
  simp only [BitVec.getElem_extractLsb', BitVec.getLsbD_extractLsb']
  grind

/-- A store of a word, seen from a state with the same memory map. -/
theorem stored16_congr {s m t : State} (hc : m.cfg = s.cfg) {a : Addr} {v : Word} (h : stored16 a v m t) :
    t.trace = .writeWord (s.evenAddr a) v :: m.trace ∧
    ∀ b, s.steady b = true → t.peek b =
      if b = s.evenAddr a ∧ s.writable b = true then v.extractLsb' 8 8
      else if b = s.evenAddr a + 1#24 ∧ s.writable b = true then v.extractLsb' 0 8
      else m.peek b := by
  simpa only [stored16, State.evenAddr_congr hc, State.steady_congr hc, State.writable_congr hc] using h

theorem stored32_of_words {s m t : State} (hc : m.cfg = s.cfg) {a : Addr} {v : Long}
    (hhigh : stored16 a (v.extractLsb' 16 16) s m) (hlow : stored16 (a + 2#24) (v.extractLsb' 0 16) m t) :
    stored32 a v s t := by
  obtain ⟨htm, hm⟩ := hhigh
  obtain ⟨htt, ht⟩ := stored16_congr hc hlow
  refine ⟨by rw [htt, htm], fun b hb => ?_⟩
  simp only [ht b hb, hm b hb, extractLsb'_extractLsb' v (l := 16) (k := 8), Nat.reduceAdd, Nat.reduceLeDiff]
  have hne := s.longBytes_distinct a
  grind

theorem stored32LowFirst_of_words {s m t : State} (hc : m.cfg = s.cfg) {a : Addr} {v : Long}
    (hlow : stored16 (a + 2#24) (v.extractLsb' 0 16) s m) (hhigh : stored16 a (v.extractLsb' 16 16) m t) :
    stored32LowFirst a v s t := by
  obtain ⟨htm, hm⟩ := hlow
  obtain ⟨htt, ht⟩ := stored16_congr hc hhigh
  refine ⟨by rw [htt, htm], fun b hb => ?_⟩
  simp only [ht b hb, hm b hb, extractLsb'_extractLsb' v (l := 16) (k := 8), Nat.reduceAdd, Nat.reduceLeDiff]

theorem stored32_writeLong {s : State} (h : s.mem.wf) (a : Addr) (v : Long) : stored32 a v s (s.writeLong a v) :=
  stored32_of_words (by simp) (stored16_writeWord h _ _) (stored16_writeWord (State.wf_writeWord h _ _) _ _)

theorem stored32LowFirst_writeLongLowFirst {s : State} (h : s.mem.wf) (a : Addr) (v : Long) :
    stored32LowFirst a v s (s.writeLongLowFirst a v) :=
  stored32LowFirst_of_words (by simp) (stored16_writeWord h _ _) (stored16_writeWord (State.wf_writeWord h _ _) _ _)

/-! ## Reading back over RAM (R57, R58) -/

theorem readWord_of_stored16 {s t : State} {a : Addr} {v : Word} (hc : t.cfg = s.cfg)
    (hram : ∀ b, s.writable b = true) (h : stored16 a v s t) : t.readWord a = v := by
  have hpeek := fun b => h.2 b (State.steady_of_writable (hram b))
  have hne := (s.longBytes_distinct a).1
  have hbytes : v.extractLsb' 8 8 ++ v.extractLsb' 0 8 = v :=
    (BitVec.extractLsb'_append_extractLsb'_eq_extractLsb' rfl).trans BitVec.extractLsb'_eq_self
  rw [State.readWord, State.evenAddr_congr hc, hpeek, hpeek]
  simpa [hram, hne.symm] using hbytes

theorem readLong_of_holds32 {s t : State} {a : Addr} {v : Long} (hc : t.cfg = s.cfg)
    (hram : ∀ b, s.writable b = true) (h : holds32 a v s t) : t.readLong a = v := by
  have hpeek := fun b => h b (State.steady_of_writable (hram b))
  have hsaw (b : Addr) : (t.sawWord a).peek b = t.peek b :=
    State.peek_noted _ (by rw [State.steady_congr hc, State.steady_of_writable (hram b)])
  have hbytes : (v.extractLsb' 24 8 ++ v.extractLsb' 16 8) ++ (v.extractLsb' 8 8 ++ v.extractLsb' 0 8) = v := by
    have join (i j k l : Nat) (hi : i = j + l) : v.extractLsb' i k ++ v.extractLsb' j l = v.extractLsb' j (k + l) :=
      BitVec.extractLsb'_append_extractLsb'_eq_extractLsb' hi
    rw [join 24 16 8 8 rfl, join 8 0 8 8 rfl, join 16 0 16 16 rfl, BitVec.extractLsb'_eq_self]
  obtain ⟨h1, h2, h3, h4, h5, h6⟩ := s.longBytes_distinct a
  simp only [State.readLong, State.readWord, hsaw, State.evenAddr_congr (s := s) (t := t.sawWord a) hc,
    State.evenAddr_congr hc, hpeek, hram, and_true, if_true, h1.symm, h2.symm, h3.symm, h4.symm, h5.symm, h6.symm,
    if_false]
  exact hbytes

/-- Settles O7: the mask of R57 as a rounding down, the accesses by definition, the stores by the laws of a read after a
write, and over RAM everywhere the read back from what the stores are said to hold. -/
theorem wordAndLongAccess : Obligations.WordAndLongAccess := fun s a v l h =>
  have hlong := stored32_writeLong h a l
  ⟨toNat_clearBit0 (s.byteAddr a), rfl, rfl, rfl, rfl, stored16_writeWord h a v, hlong,
    stored32LowFirst_writeLongLowFirst h a l, fun hram =>
      ⟨readWord_of_stored16 (by simp) hram (stored16_writeWord h a v),
        readLong_of_holds32 (by simp) hram hlong.2⟩⟩

end Sys2Proof.Machine
end

section
/-! SUPPORT. The write group of the bit manipulation on memory. -/

namespace Sys2Proof.Machine

/-! ## One bit of a byte (R262 to R265) -/

/-- `f` gives bit `n` of the byte `b` the value `x` and keeps the other seven. -/
def writesBit (f : Byte → Byte) (n : Nat) (x : Bool) (b : Byte) : Prop :=
  ∀ k, k < 8 → (f b).getLsbD k = if k = n then x else b.getLsbD k

theorem writesBit_withBit (n : BitVec 3) (x : Bool) (b : Byte) : writesBit (withBit · n x) n.toNat x b := by
  intro k hk
  have hn : n.toNat < 8 := n.isLt
  cases x with
  | true =>
    simp only [withBit, BitVec.getLsbD_or, BitVec.getLsbD_shiftLeft, BitVec.getLsbD_one]
    grind
  | false =>
    simp only [withBit, BitVec.getLsbD_and, BitVec.getLsbD_not, BitVec.getLsbD_shiftLeft, BitVec.getLsbD_one]
    grind

theorem toNat_bitNumber (b : Byte) : (bitNumber b).toNat = b.toNat % 8 := by
  simp [bitNumber, BitVec.extractLsb'_toNat]

/-! ## One read and one write (R63, R262) -/

theorem hitsNext_eq_false {s : State} {len : Nat} {a : Addr} :
    s.hitsNext len a = false ↔ s.evenAddr a ≠ s.nextPc len := by
  simp [State.hitsNext]

/-- What the claim says of one of the sixteen forms, with the address, the bit number and the new bit. -/
def writesBitAt (o : Result) (ea : Addr) (n : Nat) (x : Bool) (s : State) : Prop :=
  s.evenAddr ea ≠ s.nextPc 4 →
    ∃ t r, o = .next t ∧ stored8 ea r (s.sawByte ea) t ∧ t.ccr = s.ccr ∧ keptButMemory 4 s t ∧
      ∀ k, k < 8 → r.getLsbD k = if k = n then x else (s.readByte ea).getLsbD k

theorem writesBitAt_bitWriteMem {s : State} (h : s.mem.wf) {ea : Addr} {f : Byte → Byte} {n : Nat} {x : Bool}
    (hf : writesBit f n x (s.readByte ea)) : writesBitAt (bitWriteMem ea f s) ea n x s := by
  intro hne
  refine ⟨_, f (s.readByte ea), bitWriteMem_eq_next.2 ⟨hitsNext_eq_false.2 hne, rfl⟩,
    stored8_writeByte (s := s.sawByte ea) h _ _, by simp, ⟨?_, fun r => ?_, ?_⟩, hf⟩
  · exact State.nextPc_congr (by simp) (by simp) 4
  · exact State.reg32_congr (by simp) r
  · simp [keptRest]

section Forms
variable {s : State} (h : s.mem.wf) {ea : Addr} {n : BitVec 3} {k : Nat} (hk : n.toNat = k)
include h hk

/-- BSET, BCLR, BST and BIST: the new bit does not depend on the byte. -/
theorem writesBitAt_withBit {x : Bool} : writesBitAt (bitWriteMem ea (withBit · n x) s) ea k x s :=
  hk ▸ writesBitAt_bitWriteMem h (writesBit_withBit n x _)

/-- BNOT: the new bit is the complement of the old one. -/
theorem writesBitAt_bnotOp : writesBitAt (bitWriteMem ea (bnotOp n) s) ea k (!(s.readByte ea).getLsbD k) s :=
  hk ▸ writesBitAt_bitWriteMem h (writesBit_withBit n _ (s.readByte ea))

end Forms

/-- Settles O34: each of the sixteen forms is one read and one write of the byte, with a function that writes one bit;
its number is an immediate or the low three bits of a register. -/
theorem bitWriteOnMemory : Obligations.BitWriteOnMemory := by
  intro s imm rn erd aa h m x y
  have hm : (bitNumber (s.reg8 rn)).toNat = m := toNat_bitNumber (s.reg8 rn)
  simp only [List.forall_mem_cons]
  exact ⟨writesBitAt_withBit h rfl, writesBitAt_withBit h rfl, writesBitAt_withBit h hm, writesBitAt_withBit h hm,
    writesBitAt_withBit h rfl, writesBitAt_withBit h rfl, writesBitAt_withBit h hm, writesBitAt_withBit h hm,
    writesBitAt_bnotOp h rfl, writesBitAt_bnotOp h rfl, writesBitAt_bnotOp h hm, writesBitAt_bnotOp h hm,
    writesBitAt_withBit h rfl, writesBitAt_withBit h rfl, writesBitAt_withBit h rfl, writesBitAt_withBit h rfl,
    List.forall_mem_nil _⟩

end Sys2Proof.Machine
end

section
/-! SUPPORT. Exception entry as the claims' word `enteredException` says it. -/

namespace Sys2Proof.Machine

/-! ## The frame (R358 to R360) -/

theorem stored32LowFirst_append {s m t : State} (hc : m.cfg = s.cfg) {a : Addr} {high low : Word}
    (hlow : stored16 (a + 2#24) low s m) (hhigh : stored16 a high m t) : stored32LowFirst a (high ++ low) s t :=
  stored32LowFirst_of_words hc (by rwa [BitVec.extractLsb'_append_eq_right])
    (by rwa [BitVec.extractLsb'_append_eq_left])

/-- The saved PC's upper byte shares a word with the CCR (R360). -/
theorem append_split_pc (c : Byte) (ret : Addr) :
    (c ++ ret : Long) = (c ++ ret.extractLsb' 16 8 : Word) ++ ret.extractLsb' 0 16 := by
  ext i hi
  simp only [BitVec.getElem_append, BitVec.getElem_extractLsb']
  grind

section Frame
variable {s : State} (h : s.mem.wf) (a ret : Addr)
include h

/-- The frame as a long word, low word first; the byte after the CCR is a free one (R359, R360). -/
theorem stored32LowFirst_writeFrame_of_normal (hmode : s.cfg.mode = .normal) :
    ∃ x : Byte, stored32LowFirst a (s.ccr.toByte ++ x ++ ret.extractLsb' 0 16) s (s.writeFrame a ret) := by
  have hlow := stored16_writeWord h (a + 2#24) (ret.extractLsb' 0 16)
  have hwf := State.wf_writeWord h (a + 2#24) (ret.extractLsb' 0 16)
  have hcfg := State.writeWord_cfg s (a + 2#24) (ret.extractLsb' 0 16)
  rw [State.writeFrame, hmode]
  exact ⟨_, stored32LowFirst_append hcfg hlow (stored16_writeEven hwf a _)⟩

theorem stored32LowFirst_writeFrame_of_advanced (hmode : s.cfg.mode = .advanced) :
    stored32LowFirst a (s.ccr.toByte ++ ret) s (s.writeFrame a ret) := by
  have hlow := stored16_writeWord h (a + 2#24) (ret.extractLsb' 0 16)
  have hwf := State.wf_writeWord h (a + 2#24) (ret.extractLsb' 0 16)
  have hcfg := State.writeWord_cfg s (a + 2#24) (ret.extractLsb' 0 16)
  rw [State.writeFrame, hmode, append_split_pc]
  exact stored32LowFirst_append hcfg hlow (stored16_writeWord hwf a _)

end Frame

/-! ## The vector (R357) -/

theorem State.vecAddr_eq_vectorAt (s : State) (v : Nat) : s.vecAddr v = vectorAt v s := by
  unfold State.vecAddr vectorAt
  cases s.cfg.mode with
  | normal => rfl
  | advanced => rfl

theorem vectorAt_congr {s t : State} (h : t.cfg = s.cfg) (v : Nat) : vectorAt v t = vectorAt v s := by
  unfold vectorAt
  rw [h]

theorem State.readEntry_eq_entryAt (s : State) (p : Addr) : s.readEntry p = entryAt p s := by
  unfold State.readEntry entryAt
  cases s.cfg.mode with
  | normal => rfl
  | advanced =>
    simp only [State.readLow24, State.readLong, State.readWord]
    ext i hi
    simp only [BitVec.getElem_append, BitVec.getElem_setWidth, BitVec.getLsbD_append]
    grind

theorem State.sawEntry_trace_congr {s t : State} (hc : t.cfg = s.cfg) (ht : t.trace = s.trace) (p : Addr) :
    (t.sawEntry p).trace = (s.sawEntry p).trace := by
  unfold State.sawEntry
  rw [hc]
  cases s.cfg.mode with
  | normal => simp [ht, State.evenAddr_congr hc]
  | advanced => simp [ht, State.evenAddr_congr hc]

/-- Exception entry writes the frame, then reads the vector; the CCR and the pc it writes touch no memory (R358). -/
theorem enteredException_entered {s : State} (h : s.mem.wf) (v : Nat) (ret : Addr) :
    enteredException v ret s (s.entered v ret) := by
  let f : Addr := (s.sp - 4#32).setWidth 24
  let m := (s.setReg32 .r7 (s.sp - 4#32)).writeFrame f ret
  have hm : m.cfg = s.cfg := by simp [m]
  have hwf : (s.setReg32 .r7 (s.sp - 4#32)).mem.wf := h
  have hp : (m.setCcr s.maskedCcr).vecAddr v = vectorAt v s :=
    (State.vecAddr_eq_vectorAt _ v).trans (vectorAt_congr hm v)
  have hkept : keptMemory (m.sawEntry (vectorAt v s)) (s.entered v ret) := by
    have htrace : (s.entered v ret).trace = (m.sawEntry (vectorAt v s)).trace := by
      rw [← hp]
      exact State.sawEntry_trace_congr (s := m) (t := m.setCcr s.maskedCcr) rfl rfl _
    refine ⟨htrace, State.peek_congr ?_ ?_ htrace⟩
    · rw [State.entered_mem, State.sawEntry_mem]
    · rw [State.entered_cfg, State.sawEntry_cfg, hm]
  have hpc : (s.entered v ret).pc = s.evenAddr (entryAt (vectorAt v s) m) := by
    rw [← hp, ← State.readEntry_eq_entryAt]
    exact State.evenAddr_congr (by simp) _
  refine ⟨⟨?_, fun r hr => ?_⟩, ⟨m, hm, ?_, hkept, hpc⟩, by simp [State.maskedCcr], by simp, by simp, by simp,
    by simp, by simp⟩
  · simp [State.reg32, State.sp]
  · simp [State.reg32, hr]
  · split
    · next hmode => exact stored32LowFirst_writeFrame_of_normal hwf f ret hmode
    · next hmode => exact stored32LowFirst_writeFrame_of_advanced hwf f ret hmode

end Sys2Proof.Machine
end

section
/-! SUPPORT. EEPMOV: the loop as an iterated turn, what a turn stores and counts, and where the loop stops. -/

namespace Sys2Proof.Machine

/-! ## Counting down in R4L and in R4 (R341, R342) -/

/-- The count-down of either size is a function of ER4. -/
def countBy (g : Long → Long) (s : State) : State := s.setReg32 .r4 (g (s.reg32 .r4))

def lessR4l (x : Long) : Long := setByteView x true (byteView x true - 1#8)

def lessR4 (x : Long) : Long := setWordView x false (wordView x false - 1#16)

theorem countDownB_eq : countDownB = countBy lessR4l := rfl

theorem countDownW_eq : countDownW = countBy lessR4 := rfl

theorem setByteView_setByteView (x : Long) (l : Bool) (b c : Byte) :
    setByteView (setByteView x l b) l c = setByteView x l c := by
  cases l with
  | true =>
    ext i hi
    simp [setByteView]
    grind
  | false =>
    ext i hi
    simp [setByteView]
    grind

theorem setWordView_setWordView (x : Long) (e : Bool) (v w : Word) :
    setWordView (setWordView x e v) e w = setWordView x e w := by
  cases e with
  | true => exact congrArg (w ++ ·) BitVec.extractLsb'_append_eq_right
  | false => exact congrArg (· ++ w) BitVec.extractLsb'_append_eq_left

theorem setByteView_byteView (x : Long) (l : Bool) : setByteView x l (byteView x l) = x := by
  cases l with
  | true =>
    ext i hi
    simp [setByteView, byteView]
    grind
  | false =>
    ext i hi
    simp [setByteView, byteView]
    grind

theorem setWordView_wordView (x : Long) (e : Bool) : setWordView x e (wordView x e) = x := by
  cases e with
  | true => exact (BitVec.extractLsb'_append_extractLsb'_eq_extractLsb' rfl).trans BitVec.extractLsb'_eq_self
  | false => exact (BitVec.extractLsb'_append_extractLsb'_eq_extractLsb' rfl).trans BitVec.extractLsb'_eq_self

theorem iterate_lessR4l (x : Long) (k : Nat) :
    lessR4l^[k] x = setByteView x true (byteView x true - BitVec.ofNat 8 k) := by
  induction k with
  | zero => simp [setByteView_byteView]
  | succ k ih =>
    have hsub : byteView x true - BitVec.ofNat 8 k - 1#8 = byteView x true - BitVec.ofNat 8 (k + 1) := by bv_omega
    rw [Function.iterate_succ_apply', ih, lessR4l, byteView_setByteView, if_pos rfl, setByteView_setByteView, hsub]

theorem iterate_lessR4 (x : Long) (k : Nat) :
    lessR4^[k] x = setWordView x false (wordView x false - BitVec.ofNat 16 k) := by
  induction k with
  | zero => simp [setWordView_wordView]
  | succ k ih =>
    have hsub : wordView x false - BitVec.ofNat 16 k - 1#16 = wordView x false - BitVec.ofNat 16 (k + 1) := by bv_omega
    rw [Function.iterate_succ_apply', ih, lessR4, wordView_setWordView, if_pos rfl, setWordView_setWordView, hsub]

/-! ## Turns of the loop (R341) -/

/-- The address byte `k` is read from. -/
def State.moveSrc (s : State) (k : Nat) : Addr := (s.reg32 .r5 + BitVec.ofNat 32 k).setWidth 24

/-- The address byte `k` is stored to. -/
def State.moveDst (s : State) (k : Nat) : Addr := (s.reg32 .r6 + BitVec.ofNat 32 k).setWidth 24

/-- ER5 and ER6 `k` bytes on. -/
def State.movedOn (s : State) (k : Nat) : State :=
  (s.setReg32 .r5 (s.reg32 .r5 + BitVec.ofNat 32 k)).setReg32 .r6 (s.reg32 .r6 + BitVec.ofNat 32 k)

/-- The state after a turn whose byte does not lie over the word at `next`. -/
def moveTurn (g : Long → Long) (s : State) : State :=
  countBy g ((((s.sawByte (s.eaInd .r5)).writeByte (s.eaInd .r6) (s.readByte (s.eaInd .r5))).stepUp .r5 1#32).stepUp
    .r6 1#32)

/-- What a turn keeps of the state it started from: all but ER4 to ER6, memory and the accesses made. -/
structure KeptByMove (s t : State) : Prop where
  pc : t.pc = s.pc
  ccr : t.ccr = s.ccr
  rest : keptRest 0 s t

theorem KeptByMove.trans {s t u : State} (h : KeptByMove s t) (k : KeptByMove t u) : KeptByMove s u := by
  obtain ⟨hpc, hccr, hrest⟩ := h
  obtain ⟨kpc, kccr, krest⟩ := k
  refine ⟨kpc.trans hpc, kccr.trans hccr, ?_⟩
  simp_all [keptRest]

theorem keptByMove_moveTurn (g : Long → Long) (s : State) : KeptByMove s (moveTurn g s) :=
  ⟨by simp [moveTurn, countBy], by simp [moveTurn, countBy], by simp [moveTurn, countBy, keptRest]⟩

theorem wf_moveTurn (g : Long → Long) {s : State} (h : s.mem.wf) : (moveTurn g s).mem.wf :=
  State.wf_writeByte (s := s.sawByte _) h _ _

theorem stored8_moveTurn (g : Long → Long) {s : State} (h : s.mem.wf) :
    stored8 (s.eaInd .r6) (s.readByte (s.eaInd .r5)) (s.sawByte (s.eaInd .r5)) (moveTurn g s) :=
  stored8_writeByte (s := s.sawByte _) h _ _

theorem reg32_moveTurn (g : Long → Long) (s : State) (r : RegNum) :
    (moveTurn g s).reg32 r = ((s.movedOn 1).setReg32 .r4 (g (s.reg32 .r4))).reg32 r := by
  cases r <;> simp [moveTurn, countBy, State.movedOn, State.reg32]

theorem keptByMove_turns (g : Long → Long) (k : Nat) (s : State) : KeptByMove s ((moveTurn g)^[k] s) := by
  induction k with
  | zero => exact ⟨rfl, rfl, by simp [keptRest]⟩
  | succ k ih =>
    rw [Function.iterate_succ_apply']
    exact ih.trans (keptByMove_moveTurn g _)

theorem wf_turns (g : Long → Long) (k : Nat) {s : State} (h : s.mem.wf) : ((moveTurn g)^[k] s).mem.wf := by
  induction k with
  | zero => exact h
  | succ k ih =>
    rw [Function.iterate_succ_apply']
    exact wf_moveTurn g ih

theorem reg32_turns (g : Long → Long) (k : Nat) (s : State) (r : RegNum) :
    ((moveTurn g)^[k] s).reg32 r = ((s.movedOn k).setReg32 .r4 (g^[k] (s.reg32 .r4))).reg32 r := by
  induction k generalizing r with
  | zero => cases r <;> simp [State.movedOn]
  | succ k ih =>
    have hadd (x : Long) : x + BitVec.ofNat 32 k + 1#32 = x + BitVec.ofNat 32 (k + 1) := by bv_omega
    rw [Function.iterate_succ_apply', Function.iterate_succ_apply', reg32_moveTurn]
    cases r <;> simp [State.movedOn, ih, hadd]

theorem eaInd_r5_turns (g : Long → Long) (k : Nat) (s : State) : ((moveTurn g)^[k] s).eaInd .r5 = s.moveSrc k := by
  rw [State.eaInd, reg32_turns]
  simp [State.movedOn, State.moveSrc]

theorem eaInd_r6_turns (g : Long → Long) (k : Nat) (s : State) : ((moveTurn g)^[k] s).eaInd .r6 = s.moveDst k := by
  rw [State.eaInd, reg32_turns]
  simp [State.movedOn, State.moveDst]

/-! ## The loop (R341, U8) -/

theorem State.hitsNext_congr {s t : State} (hc : t.cfg = s.cfg) (hp : t.pc = s.pc) (len : Nat) (a : Addr) :
    t.hitsNext len a = s.hitsNext len a := by
  simp [State.hitsNext, State.evenAddr_congr hc, State.nextPc_congr hc hp]

theorem copyBytes_succ_last (c : State → State) (k : Nat) (s : State) :
    copyBytes c (k + 1) s = andThen (copyBytes c k s) (copyByte c) := by
  induction k generalizing s with
  | zero =>
    rw [copyBytes, copyBytes, andThen]
    cases copyByte c s <;> rfl
  | succ k ih =>
    rw [copyBytes, copyBytes]
    cases copyByte c s with
    | next t => exact ih t
    | fault r => rfl
    | refused r => rfl

/-- Turn `k` stops if its byte lies over the word at `next`. -/
theorem copyByte_turns (g : Long → Long) (k : Nat) (s : State) :
    copyByte (countBy g) ((moveTurn g)^[k] s) =
      if s.hitsNext 4 (s.moveDst k) = true then .refused .storeIntoPrefetchedWord
      else .next ((moveTurn g)^[k + 1] s) := by
  obtain ⟨hpc, -, -, -, hcfg, -⟩ := keptByMove_turns g k s
  simp only [copyByte, guardNext, List.any_cons, List.any_nil, Bool.or_false, eaInd_r6_turns,
    State.hitsNext_congr hcfg hpc]
  rw [Function.iterate_succ_apply', moveTurn, eaInd_r6_turns]

theorem copyBytes_of_clear {g : Long → Long} {k : Nat} {s : State}
    (h : ∀ j, j < k → s.hitsNext 4 (s.moveDst j) = false) :
    copyBytes (countBy g) k s = .next ((moveTurn g)^[k] s) := by
  induction k with
  | zero => rfl
  | succ k ih =>
    rw [copyBytes_succ_last, ih fun j hj => h j (by omega), andThen, copyByte_turns, h k (by omega)]
    simp

theorem copyBytes_of_hit {g : Long → Long} {j k : Nat} {s : State} (hjk : j < k)
    (h : s.hitsNext 4 (s.moveDst j) = true) :
    copyBytes (countBy g) k s = .refused .storeIntoPrefetchedWord := by
  induction k generalizing j with
  | zero => omega
  | succ k ih =>
    rw [copyBytes_succ_last]
    by_cases hit : ∃ i, i < k ∧ s.hitsNext 4 (s.moveDst i) = true
    · obtain ⟨i, hi, hhit⟩ := hit
      rw [ih hi hhit, andThen]
    · have hclear (i : Nat) (hi : i < k) : s.hitsNext 4 (s.moveDst i) = false :=
        Bool.eq_false_iff.2 fun hhit => hit ⟨i, hi, hhit⟩
      have hlast : j = k := by
        by_contra hne
        exact hit ⟨j, by omega, h⟩
      rw [copyBytes_of_clear hclear, andThen, copyByte_turns, if_pos (hlast ▸ h)]

/-! ## The copy as the claims say it -/

/-- The states `u 0` to `u k` between the turns, after the two dummy reads (R341, R63). -/
def copiedThrough (k : Nat) (s : State) (u : Nat → State) : Prop :=
  u 0 = (s.sawByte (s.moveSrc 0)).sawByte (s.moveDst 0) ∧ (∀ j, j ≤ k → keptRest 0 s (u j)) ∧
    ∀ j, j < k →
      stored8 (s.moveDst j) ((u j).readByte (s.moveSrc j)) ((u j).sawByte (s.moveSrc j)) (u (j + 1))

theorem copiedThrough_turns (g : Long → Long) (k : Nat) {s : State} (h : s.mem.wf) :
    copiedThrough k s fun j => (moveTurn g)^[j] s.sawEnds := by
  refine ⟨?_, fun j _ => (keptByMove_turns g j s.sawEnds).rest, fun j _ => ?_⟩
  · simp [State.sawEnds, State.eaInd, State.moveSrc, State.moveDst]
  · have hturn := stored8_moveTurn g (wf_turns g j (s := s.sawEnds) h)
    rw [eaInd_r5_turns, eaInd_r6_turns] at hturn
    dsimp only
    rw [Function.iterate_succ_apply']
    exact hturn

theorem er_turns (g : Long → Long) (k : Nat) (s : State) :
    ((moveTurn g)^[k] s).er = ((s.movedOn k).setReg32 .r4 (g^[k] (s.reg32 .r4))).er :=
  Regs.ext_get (reg32_turns g k s)

theorem wrote8_congr {rd : Reg8} {v : Byte} {s t u : State} (he : u.er = t.er) (h : wrote8 rd v s t) :
    wrote8 rd v s u := by
  simpa only [wrote8, State.reg8, State.reg16, State.reg32_congr he] using h

theorem wrote16_congr {rd : Reg16} {v : Word} {s t u : State} (he : u.er = t.er) (h : wrote16 rd v s t) :
    wrote16 rd v s u := by
  simpa only [wrote16, State.reg16, State.reg32_congr he] using h

/-- After `k` turns the count stands in R4L, and no other part of ER4 has changed. -/
theorem wrote8_turns (k : Nat) (s : State) :
    wrote8 r4l (s.reg8 r4l - BitVec.ofNat 8 k) (s.movedOn k) ((moveTurn lessR4l)^[k] s) := by
  refine wrote8_congr ?_ (wrote8_setReg8 _ _ _)
  rw [er_turns, iterate_lessR4l]
  rfl

theorem wrote16_turns (k : Nat) (s : State) :
    wrote16 r4 (s.reg16 r4 - BitVec.ofNat 16 k) (s.movedOn k) ((moveTurn lessR4)^[k] s) := by
  refine wrote16_congr ?_ (wrote16_setReg16 _ _ _)
  rw [er_turns, iterate_lessR4]
  rfl

/-- The pc goes on to `next` after the last turn; all else a turn keeps is kept (R344). -/
theorem keptButPc_of_turns (g : Long → Long) (k : Nat) (s : State) :
    (((moveTurn g)^[k] s.sawEnds).advance 4).ccr = s.ccr ∧
      (((moveTurn g)^[k] s.sawEnds).advance 4).pc = s.nextPc 4 ∧
      keptRest 0 s (((moveTurn g)^[k] s.sawEnds).advance 4) := by
  obtain ⟨hpc, hccr, hrest⟩ := keptByMove_turns g k s.sawEnds
  obtain ⟨-, -, hcfg, -⟩ := id hrest
  exact ⟨hccr, State.nextPc_congr (s := s) hcfg hpc 4, hrest⟩

theorem keptMemory_advance (s : State) (len : Nat) : keptMemory s (s.advance len) := ⟨rfl, fun _ => rfl⟩

/-- The loop of an EEPMOV none of whose `k` bytes lies over the word at `next`. -/
theorem copyBytes_sawEnds {g : Long → Long} {k : Nat} {s : State}
    (h : ∀ j, j < k → s.evenAddr (s.moveDst j) ≠ s.nextPc 4) :
    copyBytes (countBy g) k s.sawEnds = .next ((moveTurn g)^[k] s.sawEnds) :=
  copyBytes_of_clear fun j hj => hitsNext_eq_false.2 (h j hj)

theorem execEepmovB_of_clear {s : State}
    (h : ∀ j, j < (s.reg8 r4l).toNat → s.evenAddr (s.moveDst j) ≠ s.nextPc 4) :
    execEepmovB s = .next (((moveTurn lessR4l)^[(s.reg8 r4l).toNat] s.sawEnds).advance 4) := by
  rw [execEepmovB, countDownB_eq, copyBytes_sawEnds h, andThen]

/-- Settles O48: the states between the turns are the iterates of one turn, the count those of its count-down. -/
theorem blockTransferByte : Obligations.BlockTransferByte := by
  intro s h n src dst hclear
  obtain ⟨hfirst, hrest, hturns⟩ := copiedThrough_turns lessR4l n h
  have hcount := wrote8_turns n s.sawEnds
  have hzero : s.reg8 r4l - BitVec.ofNat 8 n = 0#8 := by simp [n, r4l]
  exact ⟨_, _, execEepmovB_of_clear hclear, hfirst, hrest, hturns, keptMemory_advance _ 4, hzero ▸ hcount,
    keptButPc_of_turns _ _ _⟩

/-! ## EEPMOV.W and the NMI (R342, D23, log 20) -/

theorem blockMoveW_of_not_cut {s : State} (h : ∀ c, s.nmiCut = some c → c = 0 ∨ (s.reg16 r4).toNat < c) :
    blockMoveW s = andThen (copyBytes countDownW (s.reg16 r4).toNat s.sawEnds) fun t => .next (t.advance 4) := by
  unfold blockMoveW
  dsimp only
  split
  · rfl
  · next c hc =>
    have hout := h c hc
    rw [if_neg (by omega)]

theorem blockMoveW_of_cut {s : State} {k : Nat} (hcut : s.nmiCut = some k) (hk : 1 ≤ k ∧ k ≤ (s.reg16 r4).toNat) :
    blockMoveW s = andThen (copyBytes countDownW k s.sawEnds) fun t =>
      takeException t.cfg.nmiVector (t.nextPc 4) (t.advance 4) := by
  simp only [blockMoveW, hcut, if_pos hk]

theorem blockMoveW_of_clear {s : State} (hcut : ∀ c, s.nmiCut = some c → c = 0 ∨ (s.reg16 r4).toNat < c)
    (h : ∀ j, j < (s.reg16 r4).toNat → s.evenAddr (s.moveDst j) ≠ s.nextPc 4) :
    blockMoveW s = .next (((moveTurn lessR4)^[(s.reg16 r4).toNat] s.sawEnds).advance 4) := by
  rw [blockMoveW_of_not_cut hcut, countDownW_eq, copyBytes_sawEnds h, andThen]

/-- Settles O49: as EEPMOV.B, with the count-down of R4. -/
theorem blockTransferWord : Obligations.BlockTransferWord := by
  intro s h n hcut src dst hclear
  obtain ⟨hfirst, hrest, hturns⟩ := copiedThrough_turns lessR4 n h
  have hcount := wrote16_turns n s.sawEnds
  have hzero : s.reg16 r4 - BitVec.ofNat 16 n = 0#16 := by simp [n, r4]
  exact ⟨_, _, blockMoveW_of_clear hcut hclear, hfirst, hrest, hturns, keptMemory_advance _ 4, hzero ▸ hcount,
    keptButPc_of_turns _ _ _⟩

/-- The stack is not among what the loop uses. -/
theorem spOdd_turns (g : Long → Long) (k : Nat) (s : State) : ((moveTurn g)^[k] s).spOdd = s.spOdd := by
  rw [State.spOdd, State.sp, reg32_turns]
  simp [State.movedOn, State.spOdd, State.sp]

/-- An EEPMOV.W that is cut ends in the NMI's exception entry from the state with `k` bytes copied (R342, R358). -/
theorem blockMoveW_of_cut_clear {s : State} {k : Nat} (hcut : s.nmiCut = some k)
    (hk : 1 ≤ k ∧ k ≤ (s.reg16 r4).toNat) (h : ∀ j, j < k → s.evenAddr (s.moveDst j) ≠ s.nextPc 4) :
    blockMoveW s =
      takeException s.cfg.nmiVector (s.nextPc 4) (((moveTurn lessR4)^[k] s.sawEnds).advance 4) := by
  obtain ⟨hpc, -, -, -, hcfg, -⟩ := keptByMove_turns lessR4 k s.sawEnds
  rw [blockMoveW_of_cut hcut hk, countDownW_eq, copyBytes_sawEnds h, andThen,
    State.nextPc_congr (s := s) hcfg hpc, hcfg]
  rfl

/-- Settles O50: `k` turns, then the exception entry. -/
theorem blockTransferCutByNmi : Obligations.BlockTransferCutByNmi := by
  intro s k h hsp hcut n src dst hpos hle hclear
  obtain ⟨hfirst, hrest, hturns⟩ := copiedThrough_turns lessR4 k h
  obtain ⟨hccr, -, hkept⟩ := keptButPc_of_turns lessR4 k s
  have heven : (((moveTurn lessR4)^[k] s.sawEnds).advance 4).spOdd = false :=
    (spOdd_turns lessR4 k s.sawEnds).trans hsp
  have hexec : exec .eepmovW s =
      .next ((((moveTurn lessR4)^[k] s.sawEnds).advance 4).entered s.cfg.nmiVector (s.nextPc 4)) := by
    change blockMoveW s = _
    rw [blockMoveW_of_cut_clear hcut ⟨hpos, hle⟩ hclear, takeException_eq_next]
    exact ⟨heven, rfl⟩
  have hcount := wrote16_turns k s.sawEnds
  have hleft : s.reg16 r4 - BitVec.ofNat 16 k = BitVec.ofNat 16 (n - k) := by
    have hn : n = (s.reg16 r4).toNat := rfl
    bv_omega
  have hentry := enteredException_entered (s := ((moveTurn lessR4)^[k] s.sawEnds).advance 4)
    (wf_turns lessR4 k (s := s.sawEnds) h) s.cfg.nmiVector (s.nextPc 4)
  exact ⟨_, _, _, hexec, hfirst, hrest, hturns, keptMemory_advance _ 4, hleft ▸ hcount, hccr, hkept, hentry⟩

end Sys2Proof.Machine
end

section
/-! SUPPORT. Where an instruction or an exception entry stops by name: an odd SP, no E clock, a store over the word at
`next`. -/

namespace Sys2Proof.Machine

/-! ## The guards: when they stop, and when they let an instruction through -/

theorem guardSp_of_odd {s : State} (h : s.spOdd = true) {k : State → Result} :
    guardSp s k = .refused .oddStackPointer := by
  simp [guardSp, h]

theorem guardSp_of_even {s : State} (h : s.spOdd = false) {k : State → Result} : guardSp s k = k s := by
  simp [guardSp, h]

theorem guardStackReg_of_even {n : RegNum} {s : State} (h : n = .r7 → s.spOdd = false) {k : State → Result} :
    guardStackReg n s k = k s := by
  cases n with
  | r7 => exact guardSp_of_even (h rfl)
  | r0 | r1 | r2 | r3 | r4 | r5 | r6 => rfl

theorem guardEclock_of_none {s : State} (h : s.cfg.hasEclock = false) {k : State → Result} :
    guardEclock s k = .refused .eclockNotAvailable := by
  simp [guardEclock, h]

theorem guardEclock_of_clock {s : State} (h : s.cfg.hasEclock = true) {k : State → Result} :
    guardEclock s k = k s := by
  simp [guardEclock, h]

theorem hitsNext_eq_true {s : State} {len : Nat} {a : Addr} :
    s.hitsNext len a = true ↔ s.evenAddr a = s.nextPc len := by
  simp [State.hitsNext]

theorem guardNext_of_hit {s : State} {len : Nat} {ws : List Addr} {a : Addr} (ha : a ∈ ws)
    (h : s.evenAddr a = s.nextPc len) {k : State → Result} :
    guardNext len ws s k = .refused .storeIntoPrefetchedWord :=
  if_pos (List.any_eq_true.2 ⟨a, ha, hitsNext_eq_true.2 h⟩)

/-! ## The word-sized stack accesses with an odd SP (R60, U9) -/

@[simp] theorem State.spOdd_sawMemInd (s : State) (aa : BitVec 8) : (s.sawMemInd aa).spOdd = s.spOdd := by
  simp [State.spOdd, State.sp, State.reg32]

section OddStack
variable {s : State} (h : s.spOdd = true)
include h

theorem execPopW_of_odd {rn : Reg16} : execPopW rn s = .refused .oddStackPointer := by
  rw [execPopW, guardSp_of_odd h]

theorem execPopL_of_odd {ern : RegNum} : execPopL ern s = .refused .oddStackPointer := by
  rw [execPopL, guardSp_of_odd h]

theorem execPushW_of_odd {rn : Reg16} : execPushW rn s = .refused .oddStackPointer := by
  rw [execPushW, guardSp_of_odd h]

theorem execPushL_of_odd {ern : RegNum} : execPushL ern s = .refused .oddStackPointer := by
  rw [execPushL, guardSp_of_odd h]

theorem callTo_of_odd {len : Nat} {target : Addr} : callTo len target s = .refused .oddStackPointer := by
  rw [callTo, guardSp_of_odd h]

theorem returnFromCall_of_odd : returnFromCall s = .refused .oddStackPointer := by
  rw [returnFromCall, guardSp_of_odd h]

theorem returnFromException_of_odd : returnFromException s = .refused .oddStackPointer := by
  rw [returnFromException, guardSp_of_odd h]

theorem trap_of_odd {x : BitVec 2} : trap x s = .refused .oddStackPointer := by
  rw [trap, guardSp_of_odd h]

theorem takeException_of_odd {v : Nat} {ret : Addr} : takeException v ret s = .refused .oddStackPointer := by
  rw [takeException, guardSp_of_odd h]

end OddStack

/-! ## A request taken with an odd SP (R60, R353, R383) -/

theorem State.accepts_congr {s t : State} (hccr : t.ccr = s.ccr) (hcfg : t.cfg = s.cfg) (r : IrqRequest) :
    t.accepts r = s.accepts r := by
  simp only [State.accepts, hccr, hcfg]

theorem State.outranks_congr {s t : State} (hcfg : t.cfg = s.cfg) (q r : IrqRequest) :
    t.outranks q r = s.outranks q r := by
  simp only [State.outranks, hcfg]

/-- The choice among the requests looks at the CCR and the product's parameters only (R363, R364). -/
theorem State.select_congr {s t : State} (hccr : t.ccr = s.ccr) (hcfg : t.cfg = s.cfg) :
    ∀ p, t.select p = s.select p
  | [] => rfl
  | r :: rs => by
    simp only [State.select, State.select_congr hccr hcfg rs, State.accepts_congr hccr hcfg,
      State.outranks_congr hcfg]

/-- A boundary with the requests `p` takes the request `r`, by the processing state (R353, R383). -/
def State.takes (s : State) (p : List IrqRequest) (r : IrqRequest) : Prop :=
  s.pstate = .programExecution ∧ s.irqInhibit = false ∧ s.select p = some r ∨
    s.pstate = .sleep ∧ s.select p = some r ∨
    s.pstate = .softwareStandby ∧ s.select (p.filter fun r => r.wakes) = some r

theorem boundary_of_takes {p : List IrqRequest} {cut : Option Nat} {s : State} {r : IrqRequest} (h : s.takes p r) :
    boundary p cut s = takeException (s.vectorOf r) s.pc s := by
  unfold boundary
  rcases h with ⟨hs, hi, hr⟩ | ⟨hs, hr⟩ | ⟨hs, hr⟩
  · simp [hs, hi, hr]
  · simp [hs, hr]
  · simp only [hs]
    rw [hr]

theorem State.takes_congr {s t : State} (hstate : t.pstate = s.pstate) (hinh : t.irqInhibit = s.irqInhibit)
    (hccr : t.ccr = s.ccr) (hcfg : t.cfg = s.cfg) {p : List IrqRequest} {r : IrqRequest} :
    t.takes p r ↔ s.takes p r := by
  simp only [State.takes, hstate, hinh, State.select_congr hccr hcfg]

theorem step_of_takes_of_odd {p : List IrqRequest} {cut : Option Nat} {rest : List Event} {s : State}
    {r : IrqRequest} (hsp : s.spOdd = true) (hin : s.inputs = .requests p cut :: rest) (h : s.takes p r) :
    step s = .refused .oddStackPointer := by
  have htakes := (State.takes_congr (s := s) (t := { s with inputs := rest }) rfl rfl rfl rfl).2 h
  rw [step_of_event hin]
  exact (boundary_of_takes htakes).trans (takeException_of_odd (s := { s with inputs := rest }) hsp)

/-- Settles O56: every form named begins with the guard of SP or of the E clock; a request taken, and the NMI that cuts
EEPMOV.W after its turns, enter through the guard of exception entry. -/
theorem oddStackAndEclockStops : Obligations.OddStackAndEclockStops := by
  intro s rn rb er d a24 a16 a8 p r cut rest
  refine ⟨fun hsp => ?_, fun hsp hs hi hin hr => ?_, fun seen hseen hsp hin hr => ?_,
    fun k hsp hcut hpos hle hclear => ?_, fun hclock => ?_⟩
  · have hmem : (s.sawMemInd a8).spOdd = true := by simp [hsp]
    simp only [List.forall_mem_cons]
    exact ⟨execPopW_of_odd hsp, execPopL_of_odd hsp, execPushW_of_odd hsp, execPushL_of_odd hsp, execPopW_of_odd hsp,
      execPopL_of_odd hsp, execPushW_of_odd hsp, execPushL_of_odd hsp, callTo_of_odd hsp, callTo_of_odd hsp,
      callTo_of_odd hsp, callTo_of_odd hmem, returnFromCall_of_odd hsp, returnFromException_of_odd hsp,
      trap_of_odd hsp, trap_of_odd hsp, trap_of_odd hsp, trap_of_odd hsp, List.forall_mem_nil _⟩
  · exact step_of_takes_of_odd hsp hin (.inl ⟨hs, hi, hr⟩)
  · obtain ⟨hs, rfl⟩ | ⟨hs, rfl⟩ := hseen
    · exact step_of_takes_of_odd hsp hin (.inr (.inl ⟨hs, hr⟩))
    · exact step_of_takes_of_odd hsp hin (.inr (.inr ⟨hs, hr⟩))
  · have hodd : (((moveTurn lessR4)^[k] s.sawEnds).advance 4).spOdd = true :=
      (spOdd_turns lessR4 k s.sawEnds).trans hsp
    exact (blockMoveW_of_cut_clear hcut ⟨hpos, hle⟩ hclear).trans (takeException_of_odd hodd)
  · simp only [List.forall_mem_cons]
    exact ⟨guardEclock_of_none hclock, guardEclock_of_none hclock, List.forall_mem_nil _⟩

/-! ## Stores over the word at `next`, by the shape of the instruction (R73, U8) -/

section Shapes
variable {s : State} {len : Nat} {ea : Addr}

theorem store8_of_hit {rs : Reg8} (h : s.evenAddr ea = s.nextPc len) :
    store8 len ea rs s = .refused .storeIntoPrefetchedWord :=
  guardNext_of_hit (List.mem_singleton_self ea) h

theorem store16_of_hit {rs : Reg16} (h : s.evenAddr ea = s.nextPc len) :
    store16 len ea rs s = .refused .storeIntoPrefetchedWord :=
  guardNext_of_hit (List.mem_singleton_self ea) h

theorem storeCcr_of_hit (h : s.evenAddr ea = s.nextPc len) :
    storeCcr len ea s = .refused .storeIntoPrefetchedWord :=
  guardNext_of_hit (List.mem_singleton_self ea) h

theorem bitWriteMem_of_hit {f : Byte → Byte} (h : s.evenAddr ea = s.nextPc 4) :
    bitWriteMem ea f s = .refused .storeIntoPrefetchedWord :=
  guardNext_of_hit (List.mem_singleton_self ea) h

/-- Either word of a long word. -/
theorem guardNext_long_of_hit (h : s.evenAddr ea = s.nextPc len ∨ s.evenAddr (ea + 2#24) = s.nextPc len)
    {k : State → Result} : guardNext len [ea, ea + 2#24] s k = .refused .storeIntoPrefetchedWord := by
  rcases h with h | h
  · exact guardNext_of_hit (by simp) h
  · exact guardNext_of_hit (a := ea + 2#24) (by simp) h

theorem store32_of_hit {ers : RegNum} (h : s.evenAddr ea = s.nextPc len ∨ s.evenAddr (ea + 2#24) = s.nextPc len) :
    store32 len ea ers s = .refused .storeIntoPrefetchedWord :=
  guardNext_long_of_hit h

theorem store32LowFirst_of_hit {ers : RegNum}
    (h : s.evenAddr ea = s.nextPc len ∨ s.evenAddr (ea + 2#24) = s.nextPc len) :
    store32LowFirst len ea ers s = .refused .storeIntoPrefetchedWord :=
  guardNext_long_of_hit h

/-- The address a pre-decrement form stores to (R98). -/
theorem State.eaInd_stepDown (s : State) (n : RegNum) (k : Long) :
    (s.stepDown n k).eaInd n = (s.reg32 n - k).setWidth 24 := by
  simp [State.stepDown, State.eaInd]

theorem execMovBStDec_of_hit {rs : Reg8} {n : RegNum}
    (h : s.evenAddr ((s.reg32 n - 1#32).setWidth 24) = s.nextPc 2) :
    execMovBStDec rs n s = .refused .storeIntoPrefetchedWord := by
  rw [← s.eaInd_stepDown] at h
  exact store8_of_hit (s := s.stepDown n 1#32) h

theorem execStcWDec_of_hit {n : RegNum} (h : s.evenAddr ((s.reg32 n - 2#32).setWidth 24) = s.nextPc 4) :
    execStcWDec n s = .refused .storeIntoPrefetchedWord := by
  rw [← s.eaInd_stepDown] at h
  exact storeCcr_of_hit (s := s.stepDown n 2#32) h

theorem execMovWStDec_of_hit {rs : Reg16} {n : RegNum} (hsp : n = .r7 → s.spOdd = false)
    (h : s.evenAddr ((s.reg32 n - 2#32).setWidth 24) = s.nextPc 2) :
    execMovWStDec rs n s = .refused .storeIntoPrefetchedWord := by
  rw [← s.eaInd_stepDown] at h
  rw [execMovWStDec, guardStackReg_of_even hsp]
  exact store16_of_hit (s := s.stepDown n 2#32) h

theorem execMovLStDec_of_hit {ers n : RegNum} (hsp : n = .r7 → s.spOdd = false)
    (h : s.evenAddr ((s.reg32 n - 4#32).setWidth 24) = s.nextPc 4 ∨
      s.evenAddr ((s.reg32 n - 4#32).setWidth 24 + 2#24) = s.nextPc 4) :
    execMovLStDec ers n s = .refused .storeIntoPrefetchedWord := by
  rw [← s.eaInd_stepDown] at h
  rw [execMovLStDec, guardStackReg_of_even hsp]
  dsimp only
  split
  · exact store32LowFirst_of_hit (s := s.stepDown n 4#32) h
  · exact store32_of_hit (s := s.stepDown n 4#32) h

theorem trap_of_hit {x : BitVec 2} (hsp : s.spOdd = false)
    (h : s.evenAddr ((s.sp - 4#32).setWidth 24) = s.nextPc 2 ∨
      s.evenAddr ((s.sp - 4#32).setWidth 24 + 2#24) = s.nextPc 2) :
    trap x s = .refused .storeIntoPrefetchedWord :=
  (guardSp_of_even hsp).trans (guardNext_long_of_hit h)

/-- The word that both modes' return frames end with, and the one that begins the advanced mode's (R295). -/
theorem callTo_of_hit {target : Addr} (hsp : s.spOdd = false)
    (h : s.evenAddr ((s.sp - 2#32).setWidth 24) = s.nextPc len ∨
      s.cfg.mode = .advanced ∧ s.evenAddr ((s.sp - 4#32).setWidth 24) = s.nextPc len) :
    callTo len target s = .refused .storeIntoPrefetchedWord := by
  have hlow : (s.sp - 4#32).setWidth 24 + 2#24 = (s.sp - 2#32).setWidth 24 := by bv_omega
  rw [callTo, guardSp_of_even hsp]
  dsimp only
  cases hmode : s.cfg.mode with
  | normal => exact guardNext_of_hit (List.mem_singleton_self _) (h.resolve_right (by simp [hmode]))
  | advanced => exact guardNext_long_of_hit (hlow ▸ h.symm.imp And.right id)

theorem callTo_sawMemInd_of_hit {aa : BitVec 8} {target : Addr} (hsp : s.spOdd = false)
    (h : s.evenAddr ((s.sp - 2#32).setWidth 24) = s.nextPc len ∨
      s.cfg.mode = .advanced ∧ s.evenAddr ((s.sp - 4#32).setWidth 24) = s.nextPc len) :
    callTo len target (s.sawMemInd aa) = .refused .storeIntoPrefetchedWord := by
  refine callTo_of_hit (by simp [hsp]) ?_
  have hcfg : (s.sawMemInd aa).cfg = s.cfg := by simp
  simpa only [State.evenAddr_congr hcfg, State.nextPc_congr hcfg (s.sawMemInd_pc aa), hcfg, State.sp,
    State.reg32_congr (s.sawMemInd_er aa)] using h

/-! ## EEPMOV (log 20) -/

theorem execEepmovB_of_hit {k : Nat} (hk : k < (s.reg8 r4l).toNat) (h : s.evenAddr (s.moveDst k) = s.nextPc 4) :
    execEepmovB s = .refused .storeIntoPrefetchedWord := by
  rw [execEepmovB, countDownB_eq, copyBytes_of_hit (s := s.sawEnds) hk (hitsNext_eq_true.2 h), andThen]

/-- An EEPMOV.W copies up to the cut, or to the end; byte `k` is among the bytes either way. -/
theorem blockMoveW_of_hit {k : Nat} (hk : k < (s.reg16 r4).toNat) (hcut : ∀ c, s.nmiCut = some c → c = 0 ∨ k < c)
    (h : s.evenAddr (s.moveDst k) = s.nextPc 4) : blockMoveW s = .refused .storeIntoPrefetchedWord := by
  have hhit : s.sawEnds.hitsNext 4 (s.moveDst k) = true := hitsNext_eq_true.2 h
  by_cases hends : s.cutByNmi
  · obtain ⟨c, hc, hpos, hle⟩ := hends
    have hkc : k < c := (hcut c hc).resolve_left (by omega)
    rw [blockMoveW_of_cut hc ⟨hpos, hle⟩, countDownW_eq, copyBytes_of_hit (s := s.sawEnds) hkc hhit, andThen]
  · have hwhole : ∀ c, s.nmiCut = some c → c = 0 ∨ (s.reg16 r4).toNat < c := by
      intro c hc
      by_contra hin
      exact hends ⟨c, hc, by omega, by omega⟩
    rw [blockMoveW_of_not_cut hwhole, countDownW_eq, copyBytes_of_hit (s := s.sawEnds) hk hhit, andThen]

end Shapes

/-- Settles O57: each storing form is one of the shapes above, at the address and with the length named. -/
theorem storeOverNextStops : Obligations.StoreOverNextStops := by
  intro s rb rw er erd n d16 d24 a8 a16 a24 dec push dst
  refine ⟨?_, fun hclock h => ?_, ?_, fun hsp => ⟨execMovWStDec_of_hit hsp, execMovLStDec_of_hit hsp⟩,
    fun hsp => ⟨fun h => ?_, ?_, ?_⟩, fun k h => ⟨fun hk => execEepmovB_of_hit hk h, fun hk hcut =>
      blockMoveW_of_hit hk hcut h⟩⟩
  · have hstore (ea : Addr) (x : Bool) (h : s.evenAddr ea = s.nextPc 4) :
        bitWriteMem ea (withBit · n x) s = .refused .storeIntoPrefetchedWord := bitWriteMem_of_hit h
    simp only [List.forall_mem_cons]
    exact ⟨store8_of_hit, store8_of_hit, store8_of_hit, execMovBStDec_of_hit, store8_of_hit, store8_of_hit,
      store8_of_hit, store16_of_hit, store16_of_hit, store16_of_hit, store16_of_hit, store16_of_hit,
      storeCcr_of_hit, storeCcr_of_hit, storeCcr_of_hit, execStcWDec_of_hit, storeCcr_of_hit, storeCcr_of_hit,
      bitWriteMem_of_hit, bitWriteMem_of_hit, bitWriteMem_of_hit, bitWriteMem_of_hit, bitWriteMem_of_hit,
      bitWriteMem_of_hit, hstore _ s.ccr.c, hstore _ (!s.ccr.c), bitWriteMem_of_hit, bitWriteMem_of_hit,
      bitWriteMem_of_hit, bitWriteMem_of_hit, bitWriteMem_of_hit, bitWriteMem_of_hit, hstore _ s.ccr.c,
      hstore _ (!s.ccr.c), List.forall_mem_nil _⟩
  · exact (guardEclock_of_clock hclock).trans (store8_of_hit h)
  · simp only [List.forall_mem_cons]
    exact ⟨store32_of_hit, store32_of_hit, store32_of_hit, store32_of_hit, store32_of_hit, List.forall_mem_nil _⟩
  · exact execMovWStDec_of_hit (n := .r7) (fun _ => hsp) h
  · simp only [List.forall_mem_cons]
    exact ⟨execMovLStDec_of_hit (n := .r7) fun _ => hsp, trap_of_hit hsp, trap_of_hit hsp, trap_of_hit hsp,
      trap_of_hit hsp, List.forall_mem_nil _⟩
  · simp only [List.forall_mem_cons]
    exact ⟨callTo_of_hit hsp, callTo_of_hit hsp, callTo_of_hit hsp, callTo_of_hit hsp, callTo_sawMemInd_of_hit hsp,
      List.forall_mem_nil _⟩

end Sys2Proof.Machine
end

section
/-! SUPPORT. Decoding what was encoded: the map's pages as equations, then every instruction by the decoder that reads it. -/

namespace Sys2Proof

/-! ## The pages of the operation code map (R104) -/

section Pages
variable (l : Nibble) (b : Byte) (t : List Byte)

theorem decode_page0 : decode (nibs .x0 l :: b :: t) = decode0 l (hiNib b) (loNib b) b t := by
  rw [decode, hiNib_nibs, loNib_nibs]

theorem decode_page1 : decode (nibs .x1 l :: b :: t) = decode1 l (hiNib b) (loNib b) := by
  rw [decode, hiNib_nibs, loNib_nibs]

theorem decode_page5 : decode (nibs .x5 l :: b :: t) = decode5 l (hiNib b) (loNib b) b t := by
  rw [decode, hiNib_nibs, loNib_nibs]

theorem decode_page6 : decode (nibs .x6 l :: b :: t) = decode6 l (hiNib b) (loNib b) t := by
  rw [decode, hiNib_nibs, loNib_nibs]

theorem decode_page7 : decode (nibs .x7 l :: b :: t) = decode7 l (hiNib b) (loNib b) b t := by
  rw [decode, hiNib_nibs, loNib_nibs]

end Pages

/-! ## Fields that meet another form's -/

/-- The byte before a 24-bit field, as the encoder writes it (R81). -/
@[simp] theorem ext24_nibs_bytes24 {α : Type} (x : BitVec 24) (t : List Byte) (k : BitVec 24 → Option α) :
    ext24 (nibs .x0 .x0 :: (bytes24 x ++ t)) k = k x :=
  ext24_bytes24 x t k

/-- A jump's 24-bit address begins in the instruction's second byte (R293, R298). -/
theorem append_bytes24 (x : BitVec 24) : x.extractLsb' 16 8 ++ be16 (x.extractLsb' 8 8) (x.extractLsb' 0 8) = x := by
  conv_rhs => rw [← be24_bytes x]
  exact BitVec.append_assoc'

theorem decodeA_x0 (x : Nibble) (one : Reg8 → Instr) (two : RegNum → RegNum → Instr) :
    decodeA .x0 x one two = some (one x.reg8) := rfl

theorem decodeA_nib1 (ers erd : RegNum) (one : Reg8 → Instr) (two : RegNum → RegNum → Instr) :
    decodeA ers.nib1 erd.nib0 one two = some (two ers erd) := by
  cases ers <;> cases erd <;> rfl

/-- Which of the words 6D is a POP or a PUSH, its address register says (R111, log 28). -/
theorem decode6_xD_nib0 {r : RegNum} (h : r.notSp = true) (x : Nibble) (t : List Byte) :
    decode6 .xD r.nib0 x t = some (.movWLdInc r x.reg16) := by
  cases r with
  | r7 => simp [RegNum.notSp] at h
  | r0 | r1 | r2 | r3 | r4 | r5 | r6 => rfl

theorem decode6_xD_nib1 {r : RegNum} (h : r.notSp = true) (x : Nibble) (t : List Byte) :
    decode6 .xD r.nib1 x t = some (.movWStDec x.reg16 r) := by
  cases r with
  | r7 => simp [RegNum.notSp] at h
  | r0 | r1 | r2 | r3 | r4 | r5 | r6 => rfl

theorem decode0100_xD_nib0 {ers : RegNum} (h : ers.notSp = true) (erd : RegNum) (t : List Byte) :
    decode0100 (nibs .x6 .xD :: nibs ers.nib0 erd.nib0 :: t) = some (.movLLdInc ers erd) := by
  cases ers with
  | r7 => simp [RegNum.notSp] at h
  | r0 | r1 | r2 | r3 | r4 | r5 | r6 => simp [decode0100]

theorem decode0100_xD_nib1 {erd : RegNum} (h : erd.notSp = true) (ers : RegNum) (t : List Byte) :
    decode0100 (nibs .x6 .xD :: nibs erd.nib1 ers.nib0 :: t) = some (.movLStDec ers erd) := by
  cases erd with
  | r7 => simp [RegNum.notSp] at h
  | r0 | r1 | r2 | r3 | r4 | r5 | r6 => simp [decode0100]

theorem decode0100_xD_x7 (ern : RegNum) (t : List Byte) :
    decode0100 (nibs .x6 .xD :: nibs .x7 ern.nib0 :: t) = some (.popL ern) := by
  simp [decode0100, Nibble.reg]

theorem decode0100_xD_xF (ern : RegNum) (t : List Byte) :
    decode0100 (nibs .x6 .xD :: nibs .xF ern.nib0 :: t) = some (.pushL ern) := by
  simp [decode0100, Nibble.reg]

/-! ## Every instruction -/

theorem decode_encode {i : Instr} (h : i.wellFormed = true) (tail : List Byte) : decode (encode i ++ tail) = some i := by
  cases i
  -- One nibble of the first byte is a register (R104).
  case movBLdA8 | movBStA8 | movBImm | addBImm | addxImm | subxImm | cmpBImm | andBImm | orBImm | xorBImm =>
    simp [encode, decode]
  -- First nibble 0.
  case movBRR | movWRR | addBReg | addWReg | addxReg | ldcBImm | ldcBReg | stcBReg | andc | orc | xorc | nop =>
    simp [encode, decode_page0, decode0]
  case incB | daa | addLReg | movLRR => simp [encode, decode_page0, decode0, decodeA_x0, decodeA_nib1]
  case adds1 | adds2 | adds4 | incW1 | incW2 | incL1 | incL2 => simp [encode, decode_page0, decode0, decode0B]
  -- First byte 01.
  case sleep | mulxsB | mulxsW | divxsB | divxsW | andLReg | orLReg | xorLReg =>
    simp [encode, decode_page0, decode0, decode01]
  case movLLdInc | movLStDec =>
    simp only [Instr.wellFormed] at h
    simp [encode, decode_page0, decode0, decode01, decode0100_xD_nib0, decode0100_xD_nib1, h]
  case popL | pushL => simp [encode, decode_page0, decode0, decode01, decode0100_xD_x7, decode0100_xD_xF]
  case movLLdInd | movLLdD16 | movLLdD24 | movLLdA16 | movLLdA24 | movLStInd | movLStD16 | movLStD24 | movLStA16
      | movLStA24 => simp [encode, decode_page0, decode0, decode01, decode0100]
  case ldcWInd | ldcWD16 | ldcWD24 | ldcWInc | ldcWA16 | ldcWA24 | stcWInd | stcWD16 | stcWD24 | stcWDec | stcWA16
      | stcWA24 => simp [encode, decode_page0, decode0, decode01, decode0140]
  -- First nibble 1.
  case subBReg | subWReg | subxReg | cmpBReg | cmpWReg | andBReg | orBReg | xorBReg =>
    simp [encode, decode_page1, decode1]
  case decB | das | subLReg | cmpLReg => simp [encode, decode_page1, decode1, decodeA_x0, decodeA_nib1]
  case subs1 | subs2 | subs4 | decW1 | decW2 | decL1 | decL2 => simp [encode, decode_page1, decode1, decode1B]
  case shalB | shalW | shalL | sharB | sharW | sharL | shllB | shllW | shllL | shlrB | shlrW | shlrL | rotlB | rotlW
      | rotlL | rotrB | rotrW | rotrL | rotxlB | rotxlW | rotxlL | rotxrB | rotxrW | rotxrL =>
    simp [encode, decode_page1, decode1, decodeShift]
  case notB | notW | notL | negB | negW | negL | extsW | extsL | extuW | extuL =>
    simp [encode, decode_page1, decode1, decode17]
  -- First nibbles 4 and 5.
  case bra d | brn d | bhi d | bls d | bcc d | bcs d | bne d | beq d | bvc d | bvs d | bpl d | bmi d | bge d | blt d
      | bgt d | ble d =>
    cases d with
    | d8 => simp [encode, decode, decodeBcc]
    | d16 => simp [encode, decode_page5, decode5, decodeBcc]
  case bsr d =>
    cases d with
    | d8 => simp [encode, decode_page5, decode5]
    | d16 => simp [encode, decode_page5, decode5]
  case mulxuB | mulxuW | divxuB | divxuW | rts | rte | trapa0 | trapa1 | trapa2 | trapa3 | jmpInd | jmpMem | jsrInd
      | jsrMem => simp [encode, decode_page5, decode5]
  case jmpAbs | jsrAbs => simp [encode, decode_page5, decode5, bytes24, ext16, append_bytes24]
  -- First nibble 6.
  case bsetRegReg | bnotRegReg | bclrRegReg | btstRegReg | andWReg | orWReg | xorWReg | bstReg | bistReg | movBLdInd
      | movBStInd | movWLdInd | movWStInd | movBLdA16 | movBLdA24 | movfpe | movBStA16 | movBStA24 | movtpe | movWLdA16
      | movWLdA24 | movWStA16 | movWStA24 | movBLdInc | movBStDec | movBLdD16 | movBStD16 | movWLdD16 | movWStD16 =>
    simp [encode, decode_page6, decode6]
  case popW | pushW => simp [encode, decode_page6, decode6, Nibble.reg]
  case movWLdInc | movWStDec =>
    simp only [Instr.wellFormed] at h
    simp [encode, decode_page6, decode6_xD_nib0, decode6_xD_nib1, h]
  -- First nibble 7.
  case bsetImmReg | bnotImmReg | bclrImmReg | btstImmReg | borReg | biorReg | bxorReg | bixorReg | bandReg | biandReg
      | bldReg | bildReg => simp [encode, decode_page7, decode7]
  case movBLdD24 | movBStD24 | movWLdD24 | movWStD24 => simp [encode, decode_page7, decode7, decode78]
  case movWImm | addWImm | subWImm | cmpWImm | andWImm | orWImm | xorWImm =>
    simp [encode, decode_page7, decode7, decode79]
  case movLImm | addLImm | subLImm | cmpLImm | andLImm | orLImm | xorLImm =>
    simp [encode, decode_page7, decode7, decode7A]
  case eepmovB | eepmovW => simp [encode, decode_page7, decode7, decode7B]
  case btstRegInd | btstImmInd | borInd | biorInd | bxorInd | bixorInd | bandInd | biandInd | bldInd | bildInd
      | btstRegAbs | btstImmAbs | borAbs | biorAbs | bxorAbs | bixorAbs | bandAbs | biandAbs | bldAbs | bildAbs =>
    simp [encode, decode_page7, decode7, decodeBitRead]
  case bsetRegInd | bnotRegInd | bclrRegInd | bsetImmInd | bnotImmInd | bclrImmInd | bstInd | bistInd | bsetRegAbs
      | bnotRegAbs | bclrRegAbs | bsetImmAbs | bnotImmAbs | bclrImmAbs | bstAbs | bistAbs =>
    simp [encode, decode_page7, decode7, decodeBitWrite]

/-- Settles O1: each instruction is read by the decoder of its page, and the fields by the laws of fields. -/
theorem decodeOfEncode : Obligations.DecodeOfEncode := fun _ tail h => decode_encode h tail

end Sys2Proof
end

section
/-! SUPPORT. What the decoder reads: from the bytes read so far and those to come, every decoder gives an instruction
whose encoding those bytes begin with. -/

namespace Sys2Proof

/-! ## Nibbles and fields, read back -/

theorem exists_nibs (b : Byte) : ∃ h l, b = nibs h l := ⟨hiNib b, loNib b, (nibs_hiNib_loNib b).symm⟩

theorem reg_eq_false {x : Nibble} {r : RegNum} : x.reg = (false, r) ↔ x = r.nib0 := by
  cases x <;> cases r <;> decide

theorem reg_eq_true {x : Nibble} {r : RegNum} : x.reg = (true, r) ↔ x = r.nib1 := by
  cases x <;> cases r <;> decide

theorem bit_eq {x : Nibble} {b : Bool} {n : BitVec 3} : x.bit = (b, n) ↔ x = bitNib b n := by
  constructor
  · intro h
    rw [← bitNib_bit x, h]
  · rintro rfl
    exact bit_bitNib b n

theorem bytes16_be16 (a b : Byte) : bytes16 (be16 a b) = [a, b] := by
  have high : (be16 a b).extractLsb' 8 8 = a := BitVec.extractLsb'_append_eq_left
  have low : (be16 a b).extractLsb' 0 8 = b := BitVec.extractLsb'_append_eq_right
  rw [bytes16, high, low]

theorem bytes24_append (a : Byte) (x : BitVec 16) : bytes24 (a ++ x) = a :: bytes16 x := by
  have high : (a ++ x : BitVec 24).extractLsb' 16 8 = a := BitVec.extractLsb'_append_eq_left
  have mid : (a ++ x : BitVec 24).extractLsb' 8 8 = x.extractLsb' 8 8 :=
    BitVec.extractLsb'_append_eq_of_add_le (by decide)
  have low : (a ++ x : BitVec 24).extractLsb' 0 8 = x.extractLsb' 0 8 :=
    BitVec.extractLsb'_append_eq_of_add_le (by decide)
  rw [bytes24, bytes16, high, mid, low]

theorem bytes24_be24 (a b c : Byte) : bytes24 (be24 a b c) = [a, b, c] := by
  have h : be24 a b c = a ++ be16 b c := BitVec.append_assoc'.symm
  rw [h, bytes24_append, bytes16_be16]

theorem bytes32_append (x y : BitVec 16) : bytes32 (x ++ y) = bytes16 x ++ bytes16 y := by
  have h24 : (x ++ y : BitVec 32).extractLsb' 24 8 = x.extractLsb' 8 8 :=
    BitVec.extractLsb'_append_eq_of_le (by decide)
  have h16 : (x ++ y : BitVec 32).extractLsb' 16 8 = x.extractLsb' 0 8 :=
    BitVec.extractLsb'_append_eq_of_le (by decide)
  have h8 : (x ++ y : BitVec 32).extractLsb' 8 8 = y.extractLsb' 8 8 :=
    BitVec.extractLsb'_append_eq_of_add_le (by decide)
  have h0 : (x ++ y : BitVec 32).extractLsb' 0 8 = y.extractLsb' 0 8 :=
    BitVec.extractLsb'_append_eq_of_add_le (by decide)
  rw [bytes32, bytes16, bytes16, h24, h16, h8, h0]
  rfl

theorem bytes32_be32 (a b c d : Byte) : bytes32 (be32 a b c d) = [a, b, c, d] := by
  have h : be32 a b c d = be16 a b ++ be16 c d := BitVec.append_assoc'.symm
  rw [h, bytes32_append, bytes16_be16, bytes16_be16]
  rfl

theorem notSp_of_ne {r : RegNum} (h : r ≠ .r7) : r.notSp = true := by
  cases r <;> simp_all [RegNum.notSp]

/-! ## How a decoder goes on -/

/-- `i` is well formed, and its encoding is the bytes `pre`. -/
def Spells (i : Instr) (pre : List Byte) : Prop := i.wellFormed = true ∧ encode i = pre

/-- If `o` is an instruction, it is well formed, and the bytes `pre`, which were read, and `t`, which follow, begin with its
encoding. -/
def Reads (pre t : List Byte) (o : Option Instr) : Prop :=
  ∀ i, o = some i → i.wellFormed = true ∧ ∃ tail, pre ++ t = encode i ++ tail

section Reads
variable {pre t : List Byte}

theorem reads_none : Reads pre t none := by
  intro i h
  cases h

theorem reads_some {i : Instr} (h : Spells i pre) : Reads pre t (some i) := by
  rintro _ ⟨⟩
  obtain ⟨hwf, henc⟩ := h
  exact ⟨hwf, t, by rw [henc]⟩

theorem reads_append {bs : List Byte} {o : Option Instr} (h : Reads (pre ++ bs) t o) : Reads pre (bs ++ t) o := by
  rwa [Reads, ← List.append_assoc]

/-- A decoder that reads two more bytes, here as nibbles, and reads nothing where they are not there. -/
theorem reads_body {f : List Byte → Option Instr} (hnil : f [] = none) (hone : ∀ c, f [c] = none)
    (h : ∀ ch cl dh dl u, Reads (pre ++ [nibs ch cl, nibs dh dl]) u (f (nibs ch cl :: nibs dh dl :: u))) :
    Reads pre t (f t) := by
  match t with
  | c :: d :: u =>
    obtain ⟨ch, cl, rfl⟩ := exists_nibs c
    obtain ⟨dh, dl, rfl⟩ := exists_nibs d
    exact reads_append (bs := [nibs ch cl, nibs dh dl]) (h ch cl dh dl u)
  | [] => exact hnil ▸ reads_none
  | [c] => exact hone c ▸ reads_none

theorem reads_reg0_map {x : Nibble} {f : RegNum → Instr} (h : ∀ r, x = r.nib0 → Spells (f r) pre) :
    Reads pre t (x.reg0.map f) := by
  cases hx : x.reg0 with
  | none => exact reads_none
  | some r => exact reads_some (h r (reg0_eq_some.1 hx))

theorem reads_bit0_map {x : Nibble} {f : BitVec 3 → Instr} (h : ∀ n, x = bitNib false n → Spells (f n) pre) :
    Reads pre t (x.bit0.map f) := by
  cases hx : x.bit0 with
  | none => exact reads_none
  | some n => exact reads_some (h n (bit0_eq_some.1 hx))

theorem reads_ext16 {f : BitVec 16 → Instr} (h : ∀ x, Spells (f x) (pre ++ bytes16 x)) :
    Reads pre t (ext16 t fun x => some (f x)) := by
  match t with
  | a :: b :: u => exact reads_append (bs := [a, b]) (reads_some (bytes16_be16 a b ▸ h (be16 a b)))
  | [] | [_] => exact reads_none

/-- The byte before the 24-bit field is the one the encoder writes (R81). -/
theorem reads_ext24 {f : BitVec 24 → Instr} (h : ∀ x, Spells (f x) (pre ++ nibs .x0 .x0 :: bytes24 x)) :
    Reads pre t (ext24 t fun x => some (f x)) := by
  match t with
  | z :: a :: b :: c :: u =>
    refine reads_append (bs := [z, a, b, c]) ?_
    rw [ext24]
    split
    · next hz =>
      subst hz
      exact reads_some (bytes24_be24 a b c ▸ h (be24 a b c))
    · exact reads_none
  | [] | [_] | [_, _] | [_, _, _] => exact reads_none

theorem reads_ext32 {f : BitVec 32 → Instr} (h : ∀ x, Spells (f x) (pre ++ bytes32 x)) :
    Reads pre t (ext32 t fun x => some (f x)) := by
  match t with
  | a :: b :: c :: d :: u =>
    exact reads_append (bs := [a, b, c, d]) (reads_some (bytes32_be32 a b c d ▸ h (be32 a b c d)))
  | [] | [_] | [_, _] | [_, _, _] => exact reads_none

end Reads

/-! ## The bodies of the longer forms (R106) -/

theorem reads_decode0100 (t : List Byte) : Reads [nibs .x0 .x1, nibs .x0 .x0] t (decode0100 t) := by
  refine reads_body (f := decode0100) rfl (fun _ => rfl) fun ah al bh bl u => ?_
  simp only [decode0100, hiNib_nibs, loNib_nibs]
  split
  · split
    · next h1 h2 => exact reads_some ⟨rfl, by simp [encode, reg_eq_false.1 h1, reg0_eq_some.1 h2]⟩
    · next h1 h2 => exact reads_some ⟨rfl, by simp [encode, reg_eq_true.1 h1, reg0_eq_some.1 h2]⟩
    · exact reads_none
  · split
    · next h1 h2 =>
      rw [reg_eq_false.1 h1, reg0_eq_some.1 h2]
      exact reads_some ⟨rfl, rfl⟩
    · next h1 h2 =>
      rw [reg_eq_true.1 h1, reg0_eq_some.1 h2]
      exact reads_some ⟨rfl, rfl⟩
    · next hne h1 h2 =>
      rw [reg_eq_false.1 h1, reg0_eq_some.1 h2]
      exact reads_some ⟨notSp_of_ne hne, rfl⟩
    · next hne h1 h2 =>
      rw [reg_eq_true.1 h1, reg0_eq_some.1 h2]
      exact reads_some ⟨notSp_of_ne hne, rfl⟩
    · exact reads_none
  · split
    · next h1 h2 => exact reads_ext16 fun _ => ⟨rfl, by simp [encode, reg_eq_false.1 h1, reg0_eq_some.1 h2]⟩
    · next h1 h2 => exact reads_ext16 fun _ => ⟨rfl, by simp [encode, reg_eq_true.1 h1, reg0_eq_some.1 h2]⟩
    · exact reads_none
  · split
    · next h1 => exact reads_ext16 fun _ => ⟨rfl, by simp [encode, reg0_eq_some.1 h1]⟩
    · next h1 => exact reads_ext24 fun _ => ⟨rfl, by simp [encode, reg0_eq_some.1 h1]⟩
    · next h1 => exact reads_ext16 fun _ => ⟨rfl, by simp [encode, reg0_eq_some.1 h1]⟩
    · next h1 => exact reads_ext24 fun _ => ⟨rfl, by simp [encode, reg0_eq_some.1 h1]⟩
    · exact reads_none
  · split
    · next x r c d v h1 =>
      obtain ⟨ch, cl, rfl⟩ := exists_nibs c
      obtain ⟨dh, dl, rfl⟩ := exists_nibs d
      refine reads_append (bs := [nibs ch cl, nibs dh dl]) ?_
      simp only [hiNib_nibs, loNib_nibs]
      split
      · next h2 => exact reads_ext24 fun _ => ⟨rfl, by simp [encode, reg_eq_false.1 h1, reg0_eq_some.1 h2]⟩
      · next h2 => exact reads_ext24 fun _ => ⟨rfl, by simp [encode, reg_eq_true.1 h1, reg0_eq_some.1 h2]⟩
      · exact reads_none
    · exact reads_none
  · exact reads_none

theorem reads_decode0140 (t : List Byte) : Reads [nibs .x0 .x1, nibs .x4 .x0] t (decode0140 t) := by
  refine reads_body (f := decode0140) rfl (fun _ => rfl) fun ah al bh bl u => ?_
  simp only [decode0140, hiNib_nibs, loNib_nibs]
  split
  · split
    · next h1 => exact reads_some ⟨rfl, by simp [encode, reg_eq_false.1 h1]⟩
    · next h1 => exact reads_some ⟨rfl, by simp [encode, reg_eq_true.1 h1]⟩
    · exact reads_none
  · split
    · next h1 => exact reads_some ⟨rfl, by simp [encode, reg_eq_false.1 h1]⟩
    · next h1 => exact reads_some ⟨rfl, by simp [encode, reg_eq_true.1 h1]⟩
    · exact reads_none
  · split
    · next h1 => exact reads_ext16 fun _ => ⟨rfl, by simp [encode, reg_eq_false.1 h1]⟩
    · next h1 => exact reads_ext16 fun _ => ⟨rfl, by simp [encode, reg_eq_true.1 h1]⟩
    · exact reads_none
  · split
    · exact reads_ext16 fun _ => ⟨rfl, rfl⟩
    · exact reads_ext24 fun _ => ⟨rfl, rfl⟩
    · exact reads_ext16 fun _ => ⟨rfl, rfl⟩
    · exact reads_ext24 fun _ => ⟨rfl, rfl⟩
    · exact reads_none
  · split
    · next r c d v h1 =>
      obtain ⟨ch, cl, rfl⟩ := exists_nibs c
      obtain ⟨dh, dl, rfl⟩ := exists_nibs d
      refine reads_append (bs := [nibs ch cl, nibs dh dl]) ?_
      simp only [hiNib_nibs, loNib_nibs]
      split
      · exact reads_ext24 fun _ => ⟨rfl, by simp [encode, reg0_eq_some.1 h1]⟩
      · exact reads_ext24 fun _ => ⟨rfl, by simp [encode, reg0_eq_some.1 h1]⟩
      · exact reads_none
    · exact reads_none
  · exact reads_none

theorem reads_decode78 (r : RegNum) (t : List Byte) : Reads [nibs .x7 .x8, nibs r.nib0 .x0] t (decode78 r t) := by
  refine reads_body (f := decode78 r) rfl (fun _ => rfl) fun ch cl dh dl u => ?_
  simp only [decode78, hiNib_nibs, loNib_nibs]
  split
  · exact reads_ext24 fun _ => ⟨rfl, by simp [encode]⟩
  · exact reads_ext24 fun _ => ⟨rfl, by simp [encode]⟩
  · exact reads_ext24 fun _ => ⟨rfl, by simp [encode]⟩
  · exact reads_ext24 fun _ => ⟨rfl, by simp [encode]⟩
  · exact reads_none

theorem reads_decode7B (bh bl : Nibble) (t : List Byte) : Reads [nibs .x7 .xB, nibs bh bl] t (decode7B bh bl t) := by
  refine reads_body (f := decode7B bh bl) rfl (fun _ => rfl) fun ch cl dh dl u => ?_
  simp only [decode7B, hiNib_nibs, loNib_nibs]
  split
  · split
    · exact reads_some ⟨rfl, rfl⟩
    · exact reads_some ⟨rfl, rfl⟩
    · exact reads_none
  · exact reads_none

section BitBodies
variable {pre t : List Byte}

/-- The body of a bit instruction with a bit number: its second byte ends in a fixed 0 (R261). -/
def SpellsBit (pre : List Byte) (c d : Nibble) (b : Bool) (f : BitVec 3 → Instr) : Prop :=
  ∀ n, Spells (f n) (pre ++ [nibs c d, nibs (bitNib b n) .x0])

/-- The body of a bit instruction with the bit number in a register. -/
def SpellsBitReg (pre : List Byte) (c d : Nibble) (f : Reg8 → Instr) : Prop :=
  ∀ rn, Spells (f rn) (pre ++ [nibs c d, nibs rn.nib .x0])

theorem SpellsBitReg.reads {c d x : Nibble} {f : Reg8 → Instr} (h : SpellsBitReg pre c d f) :
    Reads (pre ++ [nibs c d, nibs x .x0]) t (some (f x.reg8)) :=
  reads_some (by simpa only [nib_reg8] using h x.reg8)

theorem SpellsBit.reads {c d x : Nibble} {f : BitVec 3 → Instr} (h : SpellsBit pre c d false f) :
    Reads (pre ++ [nibs c d, nibs x .x0]) t (x.bit0.map f) :=
  reads_bit0_map fun n hx => hx ▸ h n

theorem reads_bit {x : Nibble} {b : Bool} {c d : Nibble} {n : BitVec 3} {f : BitVec 3 → Instr}
    (h : SpellsBit pre c d b f) (hx : x.bit = (b, n)) : Reads (pre ++ [nibs c d, nibs x .x0]) t (some (f n)) :=
  reads_some (bit_eq.1 hx ▸ h n)

theorem reads_decodeBitRead {tstR : Reg8 → Instr} {tst bor bior bxor bixor band biand bld bild : BitVec 3 → Instr}
    (htstR : SpellsBitReg pre .x6 .x3 tstR) (htst : SpellsBit pre .x7 .x3 false tst)
    (hbor : SpellsBit pre .x7 .x4 false bor) (hbior : SpellsBit pre .x7 .x4 true bior)
    (hbxor : SpellsBit pre .x7 .x5 false bxor) (hbixor : SpellsBit pre .x7 .x5 true bixor)
    (hband : SpellsBit pre .x7 .x6 false band) (hbiand : SpellsBit pre .x7 .x6 true biand)
    (hbld : SpellsBit pre .x7 .x7 false bld) (hbild : SpellsBit pre .x7 .x7 true bild) :
    Reads pre t (decodeBitRead t tstR tst bor bior bxor bixor band biand bld bild) := by
  refine reads_body (f := (decodeBitRead · tstR tst bor bior bxor bixor band biand bld bild)) rfl (fun _ => rfl) fun ch cl dh dl u => ?_
  simp only [decodeBitRead, hiNib_nibs, loNib_nibs]
  split
  · split
    · exact htstR.reads
    · exact htst.reads
    · split
      · next hx => exact reads_bit hbor hx
      · next hx => exact reads_bit hbior hx
    · split
      · next hx => exact reads_bit hbxor hx
      · next hx => exact reads_bit hbixor hx
    · split
      · next hx => exact reads_bit hband hx
      · next hx => exact reads_bit hbiand hx
    · split
      · next hx => exact reads_bit hbld hx
      · next hx => exact reads_bit hbild hx
    · exact reads_none
  · exact reads_none

theorem reads_decodeBitWrite {setR notR clrR : Reg8 → Instr} {set not clr st ist : BitVec 3 → Instr}
    (hsetR : SpellsBitReg pre .x6 .x0 setR) (hnotR : SpellsBitReg pre .x6 .x1 notR)
    (hclrR : SpellsBitReg pre .x6 .x2 clrR) (hset : SpellsBit pre .x7 .x0 false set)
    (hnot : SpellsBit pre .x7 .x1 false not) (hclr : SpellsBit pre .x7 .x2 false clr)
    (hst : SpellsBit pre .x6 .x7 false st) (hist : SpellsBit pre .x6 .x7 true ist) :
    Reads pre t (decodeBitWrite t setR notR clrR set not clr st ist) := by
  refine reads_body (f := (decodeBitWrite · setR notR clrR set not clr st ist)) rfl (fun _ => rfl) fun ch cl dh dl u => ?_
  simp only [decodeBitWrite, hiNib_nibs, loNib_nibs]
  split
  · split
    · exact hsetR.reads
    · exact hnotR.reads
    · exact hclrR.reads
    · split
      · next hx => exact reads_bit hst hx
      · next hx => exact reads_bit hist hx
    · exact hset.reads
    · exact hnot.reads
    · exact hclr.reads
    · exact reads_none
  · exact reads_none

end BitBodies

/-! ## First byte 01, and the second bytes shared by several first bytes (R105) -/

theorem reads_decode01 (bh bl : Nibble) (t : List Byte) : Reads [nibs .x0 .x1, nibs bh bl] t (decode01 bh bl t) := by
  unfold decode01
  split
  · exact reads_decode0100 t
  · exact reads_decode0140 t
  · exact reads_some ⟨rfl, rfl⟩
  · refine reads_body (f := decode01 .xC .x0) rfl (fun _ => rfl) fun ch cl dh dl u => ?_
    simp only [decode01, hiNib_nibs, loNib_nibs]
    split
    · exact reads_some ⟨rfl, by simp [encode]⟩
    · exact reads_reg0_map fun r hr => ⟨rfl, by simp [encode, hr]⟩
    · exact reads_none
  · refine reads_body (f := decode01 .xD .x0) rfl (fun _ => rfl) fun ch cl dh dl u => ?_
    simp only [decode01, hiNib_nibs, loNib_nibs]
    split
    · exact reads_some ⟨rfl, by simp [encode]⟩
    · exact reads_reg0_map fun r hr => ⟨rfl, by simp [encode, hr]⟩
    · exact reads_none
  · refine reads_body (f := decode01 .xF .x0) rfl (fun _ => rfl) fun ch cl dh dl u => ?_
    simp only [decode01, hiNib_nibs, loNib_nibs]
    split
    · next h1 h2 => exact reads_some ⟨rfl, by simp [encode, reg0_eq_some.1 h1, reg0_eq_some.1 h2]⟩
    · next h1 h2 => exact reads_some ⟨rfl, by simp [encode, reg0_eq_some.1 h1, reg0_eq_some.1 h2]⟩
    · next h1 h2 => exact reads_some ⟨rfl, by simp [encode, reg0_eq_some.1 h1, reg0_eq_some.1 h2]⟩
    · exact reads_none
  · exact reads_none

section SecondByte
variable {c : Byte} {t : List Byte}

/-- A register in the low nibble, under a fixed high nibble. -/
def Spells8 (c : Byte) (h : Nibble) (f : Reg8 → Instr) : Prop := ∀ rd, Spells (f rd) [c, nibs h rd.nib]

def Spells16 (c : Byte) (h : Nibble) (f : Reg16 → Instr) : Prop := ∀ rd, Spells (f rd) [c, nibs h rd.nib]

def Spells32 (c : Byte) (h : Nibble) (f : RegNum → Instr) : Prop := ∀ erd, Spells (f erd) [c, nibs h erd.nib0]

theorem Spells8.reads {h x : Nibble} {f : Reg8 → Instr} (hf : Spells8 c h f) :
    Reads [c, nibs h x] t (some (f x.reg8)) :=
  reads_some (by simpa only [nib_reg8] using hf x.reg8)

theorem Spells16.reads {h x : Nibble} {f : Reg16 → Instr} (hf : Spells16 c h f) :
    Reads [c, nibs h x] t (some (f x.reg16)) :=
  reads_some (by simpa only [nib_reg16] using hf x.reg16)

theorem Spells32.reads {h x : Nibble} {f : RegNum → Instr} (hf : Spells32 c h f) :
    Reads [c, nibs h x] t (x.reg0.map f) :=
  reads_reg0_map fun r hx => hx ▸ hf r

theorem reads_decodeA {one : Reg8 → Instr} {two : RegNum → RegNum → Instr} (h1 : Spells8 c .x0 one)
    (h2 : ∀ ers erd, Spells (two ers erd) [c, nibs ers.nib1 erd.nib0]) (bh bl : Nibble) :
    Reads [c, nibs bh bl] t (decodeA bh bl one two) := by
  unfold decodeA
  split
  · exact h1.reads
  · split
    · next hs hd =>
      rw [reg1_eq_some.1 hs, reg0_eq_some.1 hd]
      exact reads_some (h2 _ _)
    · exact reads_none

theorem reads_decodeShift {b0 b8 : Reg8 → Instr} {w1 w9 : Reg16 → Instr} {l3 lB : RegNum → Instr}
    (h0 : Spells8 c .x0 b0) (h1 : Spells16 c .x1 w1) (h3 : Spells32 c .x3 l3) (h8 : Spells8 c .x8 b8)
    (h9 : Spells16 c .x9 w9) (hB : Spells32 c .xB lB) (bh bl : Nibble) :
    Reads [c, nibs bh bl] t (decodeShift bh bl b0 w1 l3 b8 w9 lB) := by
  unfold decodeShift
  split
  · exact h0.reads
  · exact h1.reads
  · exact h3.reads
  · exact h8.reads
  · exact h9.reads
  · exact hB.reads
  · exact reads_none

end SecondByte

theorem reads_decode0B (bh bl : Nibble) (t : List Byte) : Reads [nibs .x0 .xB, nibs bh bl] t (decode0B bh bl) := by
  unfold decode0B
  split
  · exact Spells32.reads fun _ => ⟨rfl, rfl⟩
  · exact Spells16.reads fun _ => ⟨rfl, rfl⟩
  · exact Spells32.reads fun _ => ⟨rfl, rfl⟩
  · exact Spells32.reads fun _ => ⟨rfl, rfl⟩
  · exact Spells32.reads fun _ => ⟨rfl, rfl⟩
  · exact Spells16.reads fun _ => ⟨rfl, rfl⟩
  · exact Spells32.reads fun _ => ⟨rfl, rfl⟩
  · exact reads_none

theorem reads_decode1B (bh bl : Nibble) (t : List Byte) : Reads [nibs .x1 .xB, nibs bh bl] t (decode1B bh bl) := by
  unfold decode1B
  split
  · exact Spells32.reads fun _ => ⟨rfl, rfl⟩
  · exact Spells16.reads fun _ => ⟨rfl, rfl⟩
  · exact Spells32.reads fun _ => ⟨rfl, rfl⟩
  · exact Spells32.reads fun _ => ⟨rfl, rfl⟩
  · exact Spells32.reads fun _ => ⟨rfl, rfl⟩
  · exact Spells16.reads fun _ => ⟨rfl, rfl⟩
  · exact Spells32.reads fun _ => ⟨rfl, rfl⟩
  · exact reads_none

theorem reads_decode17 (bh bl : Nibble) (t : List Byte) : Reads [nibs .x1 .x7, nibs bh bl] t (decode17 bh bl) := by
  unfold decode17
  split
  · exact Spells8.reads fun _ => ⟨rfl, rfl⟩
  · exact Spells16.reads fun _ => ⟨rfl, rfl⟩
  · exact Spells32.reads fun _ => ⟨rfl, rfl⟩
  · exact Spells16.reads fun _ => ⟨rfl, rfl⟩
  · exact Spells32.reads fun _ => ⟨rfl, rfl⟩
  · exact Spells8.reads fun _ => ⟨rfl, rfl⟩
  · exact Spells16.reads fun _ => ⟨rfl, rfl⟩
  · exact Spells32.reads fun _ => ⟨rfl, rfl⟩
  · exact Spells16.reads fun _ => ⟨rfl, rfl⟩
  · exact Spells32.reads fun _ => ⟨rfl, rfl⟩
  · exact reads_none

theorem reads_decode79 (bh bl : Nibble) (t : List Byte) : Reads [nibs .x7 .x9, nibs bh bl] t (decode79 bh bl t) := by
  unfold decode79
  split
  case h_8 => exact reads_none
  all_goals exact reads_ext16 fun _ => ⟨rfl, by simp [encode]⟩

theorem reads_decode7A (bh bl : Nibble) (t : List Byte) : Reads [nibs .x7 .xA, nibs bh bl] t (decode7A bh bl t) := by
  unfold decode7A
  split
  case h_8 => exact reads_none
  all_goals
    next h => exact reads_ext32 fun _ => ⟨rfl, by simp [encode, reg0_eq_some.1 h]⟩

/-! ## The pages (R104) -/

theorem reads_decode0 (al bh bl : Nibble) (t : List Byte) :
    Reads [nibs .x0 al, nibs bh bl] t (decode0 al bh bl (nibs bh bl) t) := by
  cases al
  case x0 =>
    simp only [decode0]
    split
    · exact reads_some ⟨rfl, rfl⟩
    · exact reads_none
  case x1 => exact reads_decode01 bh bl t
  case x2 | x3 =>
    simp only [decode0]
    split
    · exact Spells8.reads fun _ => ⟨rfl, rfl⟩
    · exact reads_none
  case x4 | x5 | x6 | x7 => exact reads_some ⟨rfl, rfl⟩
  case x8 | x9 | xC | xD | xE => exact reads_some ⟨rfl, by simp [encode]⟩
  case xA | xF => exact reads_decodeA (fun _ => ⟨rfl, rfl⟩) (fun _ _ => ⟨rfl, rfl⟩) bh bl
  case xB => exact reads_decode0B bh bl t

theorem reads_decode1 (al bh bl : Nibble) (t : List Byte) : Reads [nibs .x1 al, nibs bh bl] t (decode1 al bh bl) := by
  cases al
  case x0 | x1 | x2 | x3 =>
    exact reads_decodeShift (fun _ => ⟨rfl, rfl⟩) (fun _ => ⟨rfl, rfl⟩) (fun _ => ⟨rfl, rfl⟩) (fun _ => ⟨rfl, rfl⟩)
      (fun _ => ⟨rfl, rfl⟩) (fun _ => ⟨rfl, rfl⟩) bh bl
  case x4 | x5 | x6 | x8 | x9 | xC | xD | xE => exact reads_some ⟨rfl, by simp [encode]⟩
  case x7 => exact reads_decode17 bh bl t
  case xA | xF => exact reads_decodeA (fun _ => ⟨rfl, rfl⟩) (fun _ _ => ⟨rfl, rfl⟩) bh bl
  case xB => exact reads_decode1B bh bl t

theorem spells_decodeBcc_d8 (cc : Nibble) (d : BitVec 8) : Spells (decodeBcc cc (.d8 d)) [nibs .x4 cc, d] := by
  cases cc <;> exact ⟨rfl, rfl⟩

theorem spells_decodeBcc_d16 (cc : Nibble) (d : BitVec 16) :
    Spells (decodeBcc cc (.d16 d)) ([nibs .x5 .x8, nibs cc .x0] ++ bytes16 d) := by
  cases cc <;> exact ⟨rfl, rfl⟩

theorem reads_decode5 (al bh bl : Nibble) (t : List Byte) :
    Reads [nibs .x5 al, nibs bh bl] t (decode5 al bh bl (nibs bh bl) t) := by
  cases al
  case x0 | x1 => exact reads_some ⟨rfl, by simp [encode]⟩
  case x2 | x3 => exact reads_reg0_map fun r hr => ⟨rfl, by simp [encode, hr]⟩
  case x5 | xB | xF => exact reads_some ⟨rfl, rfl⟩
  all_goals simp only [decode5]
  case xA | xE => exact reads_ext16 fun _ => ⟨rfl, by simp [encode, bytes24_append]⟩
  case x4 | x6 =>
    split
    · exact reads_some ⟨rfl, rfl⟩
    · exact reads_none
  case x7 =>
    split
    · exact reads_some ⟨rfl, rfl⟩
    · exact reads_some ⟨rfl, rfl⟩
    · exact reads_some ⟨rfl, rfl⟩
    · exact reads_some ⟨rfl, rfl⟩
    · exact reads_none
  case x8 =>
    split
    · exact reads_ext16 (spells_decodeBcc_d16 bh)
    · exact reads_none
  case x9 | xD =>
    split
    · next h => exact reads_some ⟨rfl, by simp [encode, reg0_eq_some.1 h]⟩
    · exact reads_none
  case xC =>
    split
    · exact reads_ext16 fun _ => ⟨rfl, rfl⟩
    · exact reads_none

theorem reads_decode6 (al bh bl : Nibble) (t : List Byte) : Reads [nibs .x6 al, nibs bh bl] t (decode6 al bh bl t) := by
  cases al
  case x0 | x1 | x2 | x3 | x4 | x5 | x6 => exact reads_some ⟨rfl, by simp [encode]⟩
  all_goals simp only [decode6]
  case x7 =>
    split
    · next h => exact reads_some ⟨rfl, by simp [encode, bit_eq.1 h]⟩
    · next h => exact reads_some ⟨rfl, by simp [encode, bit_eq.1 h]⟩
  case x8 | x9 | xC =>
    split
    · next h => exact reads_some ⟨rfl, by simp [encode, reg_eq_false.1 h]⟩
    · next h => exact reads_some ⟨rfl, by simp [encode, reg_eq_true.1 h]⟩
  case xA =>
    split
    · exact reads_ext16 fun _ => ⟨rfl, by simp [encode]⟩
    · exact reads_ext24 fun _ => ⟨rfl, by simp [encode]⟩
    · exact reads_ext16 fun _ => ⟨rfl, by simp [encode]⟩
    · exact reads_ext16 fun _ => ⟨rfl, by simp [encode]⟩
    · exact reads_ext24 fun _ => ⟨rfl, by simp [encode]⟩
    · exact reads_ext16 fun _ => ⟨rfl, by simp [encode]⟩
    · exact reads_none
  case xB =>
    split
    · exact reads_ext16 fun _ => ⟨rfl, by simp [encode]⟩
    · exact reads_ext24 fun _ => ⟨rfl, by simp [encode]⟩
    · exact reads_ext16 fun _ => ⟨rfl, by simp [encode]⟩
    · exact reads_ext24 fun _ => ⟨rfl, by simp [encode]⟩
    · exact reads_none
  case xD =>
    split
    · next h => exact reads_some ⟨rfl, by simp [encode, reg_eq_false.1 h]; rfl⟩
    · next h => exact reads_some ⟨rfl, by simp [encode, reg_eq_true.1 h]; rfl⟩
    · next hne h => exact reads_some ⟨notSp_of_ne hne, by simp [encode, reg_eq_false.1 h]⟩
    · next hne h => exact reads_some ⟨notSp_of_ne hne, by simp [encode, reg_eq_true.1 h]⟩
  case xE | xF =>
    split
    · next h => exact reads_ext16 fun _ => ⟨rfl, by simp [encode, reg_eq_false.1 h]⟩
    · next h => exact reads_ext16 fun _ => ⟨rfl, by simp [encode, reg_eq_true.1 h]⟩

theorem reads_decode7 (al bh bl : Nibble) (t : List Byte) :
    Reads [nibs .x7 al, nibs bh bl] t (decode7 al bh bl (nibs bh bl) t) := by
  cases al
  case x0 | x1 | x2 | x3 => exact reads_bit0_map fun n hn => ⟨rfl, by simp [encode, hn]⟩
  case x9 => exact reads_decode79 bh bl t
  case xA => exact reads_decode7A bh bl t
  case xB => exact reads_decode7B bh bl t
  all_goals simp only [decode7]
  case xE =>
    exact reads_decodeBitRead (fun _ => ⟨rfl, rfl⟩) (fun _ => ⟨rfl, rfl⟩) (fun _ => ⟨rfl, rfl⟩) (fun _ => ⟨rfl, rfl⟩)
      (fun _ => ⟨rfl, rfl⟩) (fun _ => ⟨rfl, rfl⟩) (fun _ => ⟨rfl, rfl⟩) (fun _ => ⟨rfl, rfl⟩) (fun _ => ⟨rfl, rfl⟩)
      (fun _ => ⟨rfl, rfl⟩)
  case xF =>
    exact reads_decodeBitWrite (fun _ => ⟨rfl, rfl⟩) (fun _ => ⟨rfl, rfl⟩) (fun _ => ⟨rfl, rfl⟩) (fun _ => ⟨rfl, rfl⟩)
      (fun _ => ⟨rfl, rfl⟩) (fun _ => ⟨rfl, rfl⟩) (fun _ => ⟨rfl, rfl⟩) (fun _ => ⟨rfl, rfl⟩)
  case x4 | x5 | x6 | x7 =>
    split
    · next h => exact reads_some ⟨rfl, by simp [encode, bit_eq.1 h]⟩
    · next h => exact reads_some ⟨rfl, by simp [encode, bit_eq.1 h]⟩
  case x8 =>
    split
    · next h =>
      rw [reg0_eq_some.1 h]
      exact reads_decode78 _ t
    · exact reads_none
  case xC =>
    split
    · next h =>
      rw [reg0_eq_some.1 h]
      exact reads_decodeBitRead (fun _ => ⟨rfl, rfl⟩) (fun _ => ⟨rfl, rfl⟩) (fun _ => ⟨rfl, rfl⟩) (fun _ => ⟨rfl, rfl⟩)
        (fun _ => ⟨rfl, rfl⟩) (fun _ => ⟨rfl, rfl⟩) (fun _ => ⟨rfl, rfl⟩) (fun _ => ⟨rfl, rfl⟩)
        (fun _ => ⟨rfl, rfl⟩) (fun _ => ⟨rfl, rfl⟩)
    · exact reads_none
  case xD =>
    split
    · next h =>
      rw [reg0_eq_some.1 h]
      exact reads_decodeBitWrite (fun _ => ⟨rfl, rfl⟩) (fun _ => ⟨rfl, rfl⟩) (fun _ => ⟨rfl, rfl⟩)
        (fun _ => ⟨rfl, rfl⟩) (fun _ => ⟨rfl, rfl⟩) (fun _ => ⟨rfl, rfl⟩) (fun _ => ⟨rfl, rfl⟩) (fun _ => ⟨rfl, rfl⟩)
    · exact reads_none

theorem reads_decode (bs : List Byte) : Reads [] bs (decode bs) := by
  refine reads_body rfl (fun _ => rfl) fun ah al bh bl t => ?_
  rw [List.nil_append, decode, hiNib_nibs, loNib_nibs, hiNib_nibs, loNib_nibs]
  cases ah
  case x0 => exact reads_decode0 al bh bl t
  case x1 => exact reads_decode1 al bh bl t
  case x4 => exact reads_some (spells_decodeBcc_d8 al _)
  case x5 => exact reads_decode5 al bh bl t
  case x6 => exact reads_decode6 al bh bl t
  case x7 => exact reads_decode7 al bh bl t
  case x2 | x3 | x8 | x9 | xA | xB | xC | xD | xE | xF => exact reads_some ⟨rfl, by simp [encode]⟩

/-- Settles O2: whatever a page's decoder reads, its encoding is what was read. -/
theorem encodeOfDecode : Obligations.EncodeOfDecode := fun bs i h => reads_decode bs i h

end Sys2Proof
end

section
/-! SUPPORT. The effective addresses as numbers (R95, R96, R99). -/

namespace Sys2Proof.Machine

/-- A sum with a sign-extended displacement is, modulo `2^24`, the sum with the displacement as a signed number (R96). -/
theorem toNat_add_signExtend {w : Nat} (hw : w ≤ 32) (x : Long) (d : BitVec w) :
    (((x + d.signExtend 32).setWidth 24).toNat : Int) = ((x.toNat : Int) + d.toInt) % 2 ^ 24 := by
  have hext : ((d.signExtend 32).toNat : Int) % 2 ^ 32 = d.toInt % 2 ^ 32 := by
    rw [← BitVec.toInt_signExtend_of_le hw, BitVec.toInt_eq_toNat_bmod]
    exact Int.bmod_emod.symm
  rw [BitVec.toNat_setWidth, BitVec.toNat_add]
  omega

theorem toNat_eaAbs8 (aa : BitVec 8) : (eaAbs8 aa).toNat = 0xFFFF00 + aa.toNat := by
  rw [eaAbs8, BitVec.toNat_append, ← Nat.shiftLeft_add_eq_or_of_lt aa.isLt]
  rfl

theorem toNat_eaAbs16 (aa : BitVec 16) :
    (eaAbs16 aa).toNat = if aa.toNat < 0x8000 then aa.toNat else 0xFF0000 + aa.toNat := by
  rw [eaAbs16, BitVec.toNat_signExtend, BitVec.msb_eq_decide, BitVec.toNat_setWidth]
  have hlt := aa.isLt
  by_cases h : aa.toNat < 0x8000
  · simp [h, Nat.not_le.2 h]
    omega
  · simp [h, Nat.not_lt.1 h]
    omega

/-- Settles O8: the sums modulo `2^24`, the two absolute forms by the bits put before them, the mask as a remainder. -/
theorem effectiveAddresses : Obligations.EffectiveAddresses := by
  intro s n d16 d24 aa8 aa16 a
  refine ⟨BitVec.toNat_setWidth _ _, toNat_add_signExtend (by decide) _ d16, ?_, toNat_eaAbs8 aa8,
    toNat_eaAbs16 aa16, s.toNat_byteAddr a⟩
  have hsum := toNat_add_signExtend (by decide) (s.reg32 n) d24
  have hint : d24.toInt % 2 ^ 24 = d24.toNat % 2 ^ 24 := by
    rw [BitVec.toInt_eq_toNat_bmod]
    exact Int.bmod_emod
  rw [State.eaDisp24]
  omega

end Sys2Proof.Machine
end

section
/-! SUPPORT. What the loading and storing shapes do, and the forms that step the address register. -/

namespace Sys2Proof.Machine

/-! ## Loads (R128 to R134) -/

section Loads
variable (len : Nat) (ea : Addr) (s : State)

theorem load8_spec (rd : Reg8) : ∃ t, load8 len ea rd s = .next t ∧ wrote8 rd (s.readByte ea) s t ∧
    movedFlags (s.readByte ea) s t ∧ keptButRegs len (s.sawByte ea) t :=
  ⟨_, rfl, wrote8_setReg8 s rd _, rfl, rfl, ⟨rfl, fun _ => rfl⟩, rfl, rfl, rfl, rfl, rfl, rfl⟩

theorem load16_spec (rd : Reg16) : ∃ t, load16 len ea rd s = .next t ∧ wrote16 rd (s.readWord ea) s t ∧
    movedFlags (s.readWord ea) s t ∧ keptButRegs len (s.sawWord ea) t :=
  ⟨_, rfl, wrote16_setReg16 s rd _, rfl, rfl, ⟨rfl, fun _ => rfl⟩, rfl, rfl, rfl, rfl, rfl, rfl⟩

theorem load32_spec (erd : RegNum) : ∃ t, load32 len ea erd s = .next t ∧ wrote32 erd (s.readLong ea) s t ∧
    movedFlags (s.readLong ea) s t ∧ keptButRegs len (s.sawLong ea) t :=
  ⟨_, rfl, wrote32_setReg32 s erd _, rfl, rfl, ⟨rfl, fun _ => rfl⟩, rfl, rfl, rfl, rfl, rfl, rfl⟩

end Loads

/-- Settles O13: a load from the state with the address register stepped, whose memory is that of before. -/
theorem loadPostIncrement : Obligations.LoadPostIncrement := by
  intro s ers erd rd8 rd16
  refine ⟨load8_spec 2 (s.eaInd ers) (s.stepUp ers 1#32) rd8, fun hsp => ⟨?_, ?_⟩⟩
  · change ∃ t, execMovWLdInc ers rd16 s = .next t ∧ _
    rw [execMovWLdInc, guardStackReg_of_even hsp]
    exact load16_spec 2 (s.eaInd ers) (s.stepUp ers 2#32) rd16
  · change ∃ t, execMovLLdInc ers erd s = .next t ∧ _
    rw [execMovLLdInc, guardStackReg_of_even hsp]
    exact load32_spec 4 (s.eaInd ers) (s.stepUp ers 4#32) erd

/-! ## Stores (R135 to R141) -/

/-- After its bytes are written, a store writes the flags of the datum and moves the pc on. -/
theorem keptButMemory_of_stored {s m : State} {c : Ccr} {len : Nat} (her : m.er = s.er) (hpc : m.pc = s.pc)
    (hrest : keptRest 0 s m) : keptButMemory len s ((m.setCcr c).advance len) := by
  obtain ⟨-, -, hcfg, -⟩ := id hrest
  exact ⟨State.nextPc_congr hcfg hpc len, State.reg32_congr her, hrest⟩

/-- What was stored is seen in the trace and the bytes alone. -/
theorem stored32_of_keptMemory {a : Addr} {v : Long} {s t u : State} (h : stored32 a v s t) (hk : keptMemory t u) :
    stored32 a v s u := by
  obtain ⟨htrace, hpeek⟩ := hk
  exact ⟨htrace.trans h.1, fun b hb => (hpeek b).trans (h.2 b hb)⟩

theorem stored32LowFirst_of_keptMemory {a : Addr} {v : Long} {s t u : State} (h : stored32LowFirst a v s t)
    (hk : keptMemory t u) : stored32LowFirst a v s u := by
  obtain ⟨htrace, hpeek⟩ := hk
  exact ⟨htrace.trans h.1, fun b hb => (hpeek b).trans (h.2 b hb)⟩

theorem keptMemory_setCcr_advance (s : State) (c : Ccr) (len : Nat) : keptMemory s ((s.setCcr c).advance len) :=
  ⟨rfl, fun _ => rfl⟩

section Stores
variable {len : Nat} {ea : Addr} {s : State} (h : s.mem.wf) (hea : s.evenAddr ea ≠ s.nextPc len)
include h hea

theorem store8_spec (rs : Reg8) : ∃ t, store8 len ea rs s = .next t ∧ stored8 ea (s.reg8 rs) s t ∧
    movedFlags (s.reg8 rs) s t ∧ keptButMemory len s t :=
  ⟨_, store8_eq_next.2 ⟨hitsNext_eq_false.2 hea, rfl⟩, stored8_writeByte h ea _, rfl,
    keptButMemory_of_stored (by simp) (by simp) (by simp [keptRest])⟩

theorem store16_spec (rs : Reg16) : ∃ t, store16 len ea rs s = .next t ∧ stored16 ea (s.reg16 rs) s t ∧
    movedFlags (s.reg16 rs) s t ∧ keptButMemory len s t :=
  ⟨_, store16_eq_next.2 ⟨hitsNext_eq_false.2 hea, rfl⟩, stored16_writeWord h ea _, rfl,
    keptButMemory_of_stored (by simp) (by simp) (by simp [keptRest])⟩

variable (hlow : s.evenAddr (ea + 2#24) ≠ s.nextPc len)
include hlow

theorem store32_spec (ers : RegNum) : ∃ t, store32 len ea ers s = .next t ∧ stored32 ea (s.reg32 ers) s t ∧
    movedFlags (s.reg32 ers) s t ∧ keptButMemory len s t :=
  ⟨_, store32_eq_next.2 ⟨⟨hitsNext_eq_false.2 hea, hitsNext_eq_false.2 hlow⟩, rfl⟩,
    stored32_of_keptMemory (stored32_writeLong h ea _) (keptMemory_setCcr_advance _ _ _), rfl,
    keptButMemory_of_stored (by simp) (by simp) (by simp [keptRest])⟩

theorem store32LowFirst_spec (ers : RegNum) : ∃ t, store32LowFirst len ea ers s = .next t ∧
    stored32LowFirst ea (s.reg32 ers) s t ∧ movedFlags (s.reg32 ers) s t ∧ keptButMemory len s t :=
  ⟨_, store32LowFirst_eq_next.2 ⟨⟨hitsNext_eq_false.2 hea, hitsNext_eq_false.2 hlow⟩, rfl⟩,
    stored32LowFirst_of_keptMemory (stored32LowFirst_writeLongLowFirst h ea _) (keptMemory_setCcr_advance _ _ _), rfl,
    keptButMemory_of_stored (by simp) (by simp) (by simp [keptRest])⟩

end Stores

/-- Settles O17: a store from the state with the address register stepped down, whose memory is that of before. -/
theorem storePreDecrement : Obligations.StorePreDecrement := by
  intro s rs8 rs16 ers erd h u1 u2 u4
  have h1 : u1.mem.wf := h
  refine ⟨fun hea => store8_spec h1 hea rs8, fun hsp hea => ?_, fun hsp hea hlow => ?_⟩
  · change ∃ t, execMovWStDec rs16 erd s = .next t ∧ _
    rw [execMovWStDec, guardStackReg_of_even hsp]
    have h2 : u2.mem.wf := h
    exact store16_spec h2 hea rs16
  · change ∃ t, execMovLStDec ers erd s = .next t ∧ _
    rw [execMovLStDec, guardStackReg_of_even hsp]
    have h4 : u4.mem.wf := h
    dsimp only
    by_cases hr : erd = .r7
    · simp only [if_pos hr]
      exact store32LowFirst_spec h4 hea hlow ers
    · simp only [if_neg hr]
      exact store32_spec h4 hea hlow ers

end Sys2Proof.Machine
end

section
/-! SUPPORT. Calls: the return frame of either mode, and the branch table's entry read before the push. -/

namespace Sys2Proof.Machine

/-- The first byte of the advanced mode's return frame is a free one (R295). -/
theorem stored16_writeOdd {s : State} (h : s.mem.wf) (a : Addr) (b : Byte) :
    stored16 a (Config.freeByte s.draws ++ b) s (s.writeOdd a b) := by
  refine stored16_of_peek rfl (by simp) (by simp) fun c => ?_
  simp only [State.peek_poke (State.wf_pokeFree h _), State.peek_pokeFree h, eq_and_writable_iff,
    State.writable_congr (State.pokeFree_cfg s _), BitVec.extractLsb'_append_eq_left,
    BitVec.extractLsb'_append_eq_right]

theorem guardNext_of_clear {len : Nat} {ws : List Addr} {s : State} (h : ∀ a ∈ ws, s.evenAddr a ≠ s.nextPc len)
    {k : State → Result} : guardNext len ws s k = k s := by
  have hany : ws.any (s.hitsNext len) = false := by simpa [hitsNext_eq_false] using h
  simp [guardNext, hany]

theorem wrote32_congr {erd : RegNum} {v : Long} {s t u : State} (he : u.er = t.er) (h : wrote32 erd v s t) :
    wrote32 erd v s u := by
  simpa only [wrote32, State.reg32_congr he] using h

/-! ## The frame and the target (R295, D25) -/

section Call
variable {len : Nat} {target : Addr} {s : State} (hsp : s.spOdd = false)
include hsp

theorem callTo_of_normal (hmode : s.cfg.mode = .normal)
    (hclear : s.evenAddr ((s.sp - 2#32).setWidth 24) ≠ s.nextPc len) :
    callTo len target s = .next (((s.setReg32 .r7 (s.sp - 2#32)).writeWord ((s.sp - 2#32).setWidth 24)
      ((s.nextPc len).extractLsb' 0 16)).setPc target) := by
  rw [callTo, guardSp_of_even hsp]
  simp only [hmode]
  rw [guardNext_of_clear (by simpa using hclear)]

theorem callTo_of_advanced (hmode : s.cfg.mode = .advanced)
    (hhigh : s.evenAddr ((s.sp - 4#32).setWidth 24) ≠ s.nextPc len)
    (hlow : s.evenAddr ((s.sp - 4#32).setWidth 24 + 2#24) ≠ s.nextPc len) :
    callTo len target s = .next ((((s.setReg32 .r7 (s.sp - 4#32)).writeWord ((s.sp - 4#32).setWidth 24 + 2#24)
      ((s.nextPc len).extractLsb' 0 16)).writeOdd ((s.sp - 4#32).setWidth 24)
      ((s.nextPc len).extractLsb' 16 8)).setPc target) := by
  rw [callTo, guardSp_of_even hsp]
  simp only [hmode]
  rw [guardNext_of_clear (by simp [hhigh, hlow])]

end Call

/-- The advanced mode's return frame: the low word of the return address, then the free byte and the high byte. -/
theorem stored32LowFirst_returnFrame {s : State} (h : s.mem.wf) (a ret : Addr) :
    stored32LowFirst a (Config.freeByte s.draws ++ ret) s
      ((s.writeWord (a + 2#24) (ret.extractLsb' 0 16)).writeOdd a (ret.extractLsb' 16 8)) := by
  have hlow := stored16_writeWord h (a + 2#24) (ret.extractLsb' 0 16)
  have hhigh := stored16_writeOdd (State.wf_writeWord h (a + 2#24) (ret.extractLsb' 0 16)) a (ret.extractLsb' 16 8)
  rw [State.writeWord_draws] at hhigh
  rw [append_split_pc]
  exact stored32LowFirst_append (State.writeWord_cfg s _ _) hlow hhigh

/-- What the claim says of a call of `len` bytes: `s` is the state of before, `u` the one after the reads made. -/
def callsFrom (o : Result) (target : Addr) (len : Nat) (s u : State) : Prop :=
  let f2 : Addr := (s.reg32 .r7 - 2#32).setWidth 24
  let f4 : Addr := (s.reg32 .r7 - 4#32).setWidth 24
  (s.cfg.mode = .normal → s.evenAddr f2 ≠ s.nextPc len →
    ∃ t, o = .next t ∧ wrote32 .r7 (s.reg32 .r7 - 2#32) s t ∧
      stored16 f2 ((s.nextPc len).setWidth 16) u t ∧ t.pc = s.evenAddr target ∧ t.ccr = s.ccr ∧ keptRest 0 s t) ∧
  (s.cfg.mode = .advanced → s.evenAddr f4 ≠ s.nextPc len → s.evenAddr (f4 + 2#24) ≠ s.nextPc len →
    ∃ (t : State) (k : Nat) (x : Byte), o = .next t ∧ wrote32 .r7 (s.reg32 .r7 - 4#32) s t ∧
      stored32LowFirst f4 (x ++ s.nextPc len) u t ∧ t.pc = s.evenAddr target ∧ t.ccr = s.ccr ∧ keptRest k s t)

theorem callsFrom_callTo {s : State} (h : s.mem.wf) (hsp : s.spOdd = false) (len : Nat) (target : Addr) :
    callsFrom (callTo len target s) target len s s := by
  have hpushed {k : Long} {m : State} (her : m.er = (s.setReg32 .r7 (s.sp - k)).er) :
      wrote32 .r7 (s.sp - k) s (m.setPc target) :=
    wrote32_congr her (wrote32_setReg32 s .r7 _)
  refine ⟨fun hmode hclear => ?_, fun hmode hhigh hlow => ?_⟩
  · have hframe := stored16_writeWord (s := s.setReg32 .r7 (s.sp - 2#32)) h ((s.sp - 2#32).setWidth 24)
      ((s.nextPc len).setWidth 16)
    rw [callTo_of_normal hsp hmode hclear, ← BitVec.setWidth_eq_extractLsb' (by decide)]
    exact ⟨_, rfl, hpushed (by simp), hframe, State.evenAddr_congr (by simp) target, by simp, by simp [keptRest]⟩
  · have hframe := stored32LowFirst_returnFrame (s := s.setReg32 .r7 (s.sp - 4#32)) h ((s.sp - 4#32).setWidth 24)
      (s.nextPc len)
    rw [callTo_of_advanced hsp hmode hhigh hlow]
    exact ⟨_, 1, _, rfl, hpushed (by simp), hframe, State.evenAddr_congr (by simp) target, by simp,
      by simp [keptRest]⟩

/-! ## The branch table's entry (R102, R299) -/

theorem State.sawEntry_eq (s : State) (p : Addr) : s.sawEntry p = { s with trace := (s.sawEntry p).trace } := by
  unfold State.sawEntry
  cases s.cfg.mode with
  | normal => rfl
  | advanced => rfl

/-- Of the state of before, a call looks at the trace for its stores only. -/
theorem callsFrom_of_trace {s u : State} (hu : u = { s with trace := u.trace }) {o : Result} {target : Addr} {len : Nat}
    (h : callsFrom o target len u u) : callsFrom o target len s u := by
  rw [hu] at h ⊢
  exact h

/-- Settles O39: each form is a call from the state of before; JSR @@aa:8 is one from the state after the table entry's
read. -/
theorem callSubroutine : Obligations.CallSubroutine := by
  intro s ern a24 a8 x8 x16 h hsp f2 f4
  have hread : callsFrom (callTo 2 (s.memInd a8) (s.sawMemInd a8)) (s.memInd a8) 2 (s.sawMemInd a8) (s.sawMemInd a8) :=
    callsFrom_callTo (by simpa using h) (by simpa using hsp) 2 _
  simp only [List.forall_mem_cons, ← State.readEntry_eq_entryAt]
  exact ⟨callsFrom_callTo h hsp 2 _, callsFrom_callTo h hsp 4 _, callsFrom_callTo h hsp 2 _, callsFrom_callTo h hsp 4 _,
    callsFrom_of_trace (s.sawEntry_eq _) hread, List.forall_mem_nil _⟩

end Sys2Proof.Machine
end

section
/-! SUPPORT. What the decoder does not read (R104 to R107): for each decoder the bytes it gives no instruction for, then the
encodings by their first bytes. -/

namespace Sys2Proof
open Machine

/-! ## Nibbles whose bit 3 is set, and bytes that are not zero -/

/-- The nibbles `1xxx`. -/
def highNibs : List Nibble := [.x8, .x9, .xA, .xB, .xC, .xD, .xE, .xF]

theorem mem_highNibs {x : Nibble} : x ∈ highNibs ↔ x.reg.1 = true := by
  cases x <;> decide

theorem exists_nib1_of_mem {x : Nibble} (h : x ∈ highNibs) : ∃ r : RegNum, x = r.nib1 :=
  ⟨x.reg.2, reg_eq_true.1 (Prod.ext (mem_highNibs.1 h) rfl)⟩

theorem exists_nib0_of_not_mem {x : Nibble} (h : x ∉ highNibs) : ∃ r : RegNum, x = r.nib0 :=
  ⟨x.reg.2, reg_eq_false.1 (Prod.ext (Bool.eq_false_iff.2 (h ∘ mem_highNibs.2)) rfl)⟩

@[simp] theorem reg0_nib1 (r : RegNum) : r.nib1.reg0 = none := by simp [Nibble.reg0]

@[simp] theorem reg1_nib0 (r : RegNum) : r.nib0.reg1 = none := by simp [Nibble.reg1]

@[simp] theorem bit0_nib1 (r : RegNum) : r.nib1.bit0 = none := by cases r <;> rfl

theorem ext24_of_ne_zero {α : Type} {b : Byte} (h : b ≠ 0) (t : List Byte) (k : BitVec 24 → Option α) :
    ext24 (b :: t) k = none := by
  match t with
  | x :: y :: z :: u => exact if_neg h
  | [] | [_] | [_, _] => rfl

/-! ## By the first byte (R104) -/

section FirstByte
variable {l bh bl : Nibble} {bs : List Byte}

theorem noInstr_page0 (h : ∀ t, decode0 l bh bl (nibs bh bl) (bs ++ t) = none) :
    noInstr (nibs .x0 l :: nibs bh bl :: bs) := by
  intro t
  simpa [decode_page0] using h t

theorem noInstr_page1 (h : decode1 l bh bl = none) : noInstr (nibs .x1 l :: nibs bh bl :: bs) := by
  intro t
  simpa [decode_page1] using h

theorem noInstr_page5 (h : ∀ t, decode5 l bh bl (nibs bh bl) (bs ++ t) = none) :
    noInstr (nibs .x5 l :: nibs bh bl :: bs) := by
  intro t
  simpa [decode_page5] using h t

theorem noInstr_page6 (h : ∀ t, decode6 l bh bl (bs ++ t) = none) : noInstr (nibs .x6 l :: nibs bh bl :: bs) := by
  intro t
  simpa [decode_page6] using h t

theorem noInstr_page7 (h : ∀ t, decode7 l bh bl (nibs bh bl) (bs ++ t) = none) :
    noInstr (nibs .x7 l :: nibs bh bl :: bs) := by
  intro t
  simpa [decode_page7] using h t

end FirstByte

/-! ## The second byte: values of BH that R105 does not list -/

section UnlistedBH
variable {bh bl : Nibble} {t : List Byte}

theorem decode01_of_bh (h : bh ∉ [.x0, .x4, .x8, .xC, .xD, .xF]) : decode01 bh bl t = none := by
  unfold decode01
  split
  case h_7 => rfl
  all_goals exact absurd (by decide) h

theorem decodeA_of_bh {one : Reg8 → Instr} {two : RegNum → RegNum → Instr} (h : bh ∉ .x0 :: highNibs) :
    decodeA bh bl one two = none := by
  obtain ⟨h0, hhigh⟩ := not_or.1 (mt List.mem_cons.2 h)
  obtain ⟨r, rfl⟩ := exists_nib0_of_not_mem hhigh
  unfold decodeA
  split
  · exact absurd ‹_› h0
  · simp

theorem decode0B_of_bh (h : bh ∉ [.x0, .x5, .x7, .x8, .x9, .xD, .xF]) : decode0B bh bl = none := by
  unfold decode0B
  split
  case h_8 => rfl
  all_goals exact absurd (by decide) h

theorem decode1B_of_bh (h : bh ∉ [.x0, .x5, .x7, .x8, .x9, .xD, .xF]) : decode1B bh bl = none := by
  unfold decode1B
  split
  case h_8 => rfl
  all_goals exact absurd (by decide) h

theorem decodeShift_of_bh {b0 b8 : Reg8 → Instr} {w1 w9 : Reg16 → Instr} {l3 lB : RegNum → Instr}
    (h : bh ∉ [.x0, .x1, .x3, .x8, .x9, .xB]) : decodeShift bh bl b0 w1 l3 b8 w9 lB = none := by
  unfold decodeShift
  split
  case h_7 => rfl
  all_goals exact absurd (by decide) h

theorem decode17_of_bh (h : bh ∉ [.x0, .x1, .x3, .x5, .x7, .x8, .x9, .xB, .xD, .xF]) : decode17 bh bl = none := by
  unfold decode17
  split
  case h_11 => rfl
  all_goals exact absurd (by decide) h

theorem decode79_of_bh (h : bh ∉ [.x0, .x1, .x2, .x3, .x4, .x5, .x6]) : decode79 bh bl t = none := by
  unfold decode79
  split
  case h_8 => rfl
  all_goals exact absurd (by decide) h

theorem decode7A_of_bh (h : bh ∉ [.x0, .x1, .x2, .x3, .x4, .x5, .x6]) : decode7A bh bl t = none := by
  unfold decode7A
  split
  case h_8 => rfl
  all_goals exact absurd (by decide) h

theorem decode6_xA_of_bh (h : bh ∉ [.x0, .x2, .x4, .x8, .xA, .xC]) : decode6 .xA bh bl t = none := by
  simp only [decode6]
  split
  case h_7 => rfl
  all_goals exact absurd (by decide) h

theorem decode6_xB_of_bh (h : bh ∉ [.x0, .x2, .x8, .xA]) : decode6 .xB bh bl t = none := by
  simp only [decode6]
  split
  case h_5 => rfl
  all_goals exact absurd (by decide) h

end UnlistedBH

/-! ## The second byte: the fixed bit above a register number -/

section FixedBit
variable {bh : Nibble} {r : RegNum} {t : List Byte}

theorem decodeA_nib1_right {one : Reg8 → Instr} {two : RegNum → RegNum → Instr} (h : bh ≠ .x0) :
    decodeA bh r.nib1 one two = none := by
  unfold decodeA
  split
  · exact absurd rfl h
  · simp

theorem decode0B_nib1 (h : bh ∈ [.x0, .x7, .x8, .x9, .xF]) : decode0B bh r.nib1 = none := by
  cases bh
  case x0 | x7 | x8 | x9 | xF => simp [decode0B]
  all_goals simp at h

theorem decode1B_nib1 (h : bh ∈ [.x0, .x7, .x8, .x9, .xF]) : decode1B bh r.nib1 = none := by
  cases bh
  case x0 | x7 | x8 | x9 | xF => simp [decode1B]
  all_goals simp at h

theorem decodeShift_nib1 {b0 b8 : Reg8 → Instr} {w1 w9 : Reg16 → Instr} {l3 lB : RegNum → Instr}
    (h : bh ∈ [.x3, .xB]) : decodeShift bh r.nib1 b0 w1 l3 b8 w9 lB = none := by
  cases bh
  case x3 | xB => simp [decodeShift]
  all_goals simp at h

theorem decode17_nib1 (h : bh ∈ [.x3, .x7, .xB, .xF]) : decode17 bh r.nib1 = none := by
  cases bh
  case x3 | x7 | xB | xF => simp [decode17]
  all_goals simp at h

theorem decode7A_nib1 : decode7A bh r.nib1 t = none := by
  unfold decode7A
  rw [reg0_nib1]
  cases bh <;> rfl

end FixedBit

/-! ## The second byte: fixed nibbles and bytes -/

section FixedNibble
variable {bh bl : Nibble} {t : List Byte}

theorem decode01_of_bl (h : bl ≠ .x0) : decode01 bh bl t = none := by
  unfold decode01
  split
  case h_7 => rfl
  all_goals exact absurd rfl h

theorem decode5_of_bl {al : Nibble} {b : Byte} (hal : al ∈ [.x7, .x8, .x9, .xD]) (h : bl ≠ .x0) :
    decode5 al bh bl b t = none := by
  cases al
  case x7 =>
    simp only [decode5]
    split
    case h_5 => rfl
    all_goals exact absurd rfl h
  case x8 => simp [decode5]
  case x9 | xD =>
    simp only [decode5]
    split
    · exact absurd rfl h
    · rfl
  all_goals simp at hal

theorem decode7_of_bl {al : Nibble} {b : Byte} (hal : al ∈ [.x8, .xC, .xD]) (h : bl ≠ .x0) :
    decode7 al bh bl b t = none := by
  cases al
  case x8 | xC | xD =>
    simp only [decode7]
    split
    · exact absurd rfl h
    · rfl
  all_goals simp at hal

theorem decode5_x7_of_bh {b : Byte} (h : bh ∉ [.x0, .x1, .x2, .x3]) : decode5 .x7 bh bl b t = none := by
  simp only [decode5]
  split
  case h_5 => rfl
  all_goals exact absurd (by decide) h

/-- STC.B and LDC.B: the high nibble of the second byte is 0. -/
theorem decode0_of_bh {al : Nibble} {b : Byte} (hal : al ∈ [.x2, .x3]) (h : bh ≠ .x0) :
    decode0 al bh bl b t = none := by
  cases al
  case x2 | x3 => simp [decode0]
  all_goals simp at hal

theorem noInstr_00_of_ne {a : Byte} (h : a ≠ 0x00) : noInstr [0x00, a] := by
  obtain ⟨ah, al, rfl⟩ := exists_nibs a
  refine noInstr_page0 (l := .x0) fun t => ?_
  simp only [decode0]
  split
  · exact absurd rfl h
  · rfl

theorem noInstr_5C_of_ne {a : Byte} (h : a ≠ 0x00) : noInstr [0x5C, a] := by
  obtain ⟨ah, al, rfl⟩ := exists_nibs a
  refine noInstr_page5 (l := .xC) fun t => ?_
  simp only [decode5]
  split
  · exact absurd rfl h
  · rfl

theorem noInstr_54_of_ne {a : Byte} (h : a ≠ 0x70) : noInstr [0x54, a] := by
  obtain ⟨ah, al, rfl⟩ := exists_nibs a
  refine noInstr_page5 (l := .x4) fun t => ?_
  simp only [decode5]
  split
  · exact absurd rfl h
  · rfl

theorem noInstr_56_of_ne {a : Byte} (h : a ≠ 0x70) : noInstr [0x56, a] := by
  obtain ⟨ah, al, rfl⟩ := exists_nibs a
  refine noInstr_page5 (l := .x6) fun t => ?_
  simp only [decode5]
  split
  · exact absurd rfl h
  · rfl

end FixedNibble

/-! ## EEPMOV's four bytes -/

theorem noInstr_7B {a : Byte} {bs : List Byte} (h : ∀ t, decode7B (hiNib a) (loNib a) (bs ++ t) = none) :
    noInstr (0x7B :: a :: bs) := by
  obtain ⟨ah, al, rfl⟩ := exists_nibs a
  rw [hiNib_nibs, loNib_nibs] at h
  exact noInstr_page7 (l := .xB) h

section Eepmov
variable {bh bl : Nibble} {b : Byte} {t : List Byte}

theorem decode7B_of_second (h : nibs bh bl ∉ [0x5C, 0xD4]) : decode7B bh bl t = none := by
  unfold decode7B
  split
  · split
    · split
      · exact absurd (by decide) h
      · exact absurd (by decide) h
      · rfl
    · rfl
  · rfl

theorem decode7B_of_third (h : b ≠ 0x59) : decode7B bh bl (b :: t) = none := by
  obtain ⟨ch, cl, rfl⟩ := exists_nibs b
  unfold decode7B
  split
  · next heq =>
    obtain ⟨rfl, -⟩ := List.cons.inj heq
    simp only [hiNib_nibs, loNib_nibs]
    split
    · exact absurd rfl h
    · rfl
  · rfl

theorem decode7B_of_fourth (h : b ≠ 0x8F) : decode7B bh bl (0x59 :: b :: t) = none := by
  obtain ⟨dh, dl, rfl⟩ := exists_nibs b
  simp only [decode7B, hiNib_nibs, loNib_nibs]
  split
  · exact absurd rfl h
  · rfl

end Eepmov

/-! ## The bodies after `0100` and `0140` -/

section Body0100
variable {a b : Byte} {h l : Nibble} {t : List Byte}

theorem decode0100_of_first (ha : a ∉ [0x69, 0x6B, 0x6D, 0x6F, 0x78]) : decode0100 (a :: t) = none := by
  obtain ⟨ah, al, rfl⟩ := exists_nibs a
  cases t with
  | nil => rfl
  | cons b t =>
    simp only [decode0100, hiNib_nibs, loNib_nibs]
    split
    case h_6 => rfl
    all_goals exact absurd (by decide) ha

theorem decode0140_of_first (ha : a ∉ [0x69, 0x6B, 0x6D, 0x6F, 0x78]) : decode0140 (a :: t) = none := by
  obtain ⟨ah, al, rfl⟩ := exists_nibs a
  cases t with
  | nil => rfl
  | cons b t =>
    simp only [decode0140, hiNib_nibs, loNib_nibs]
    split
    case h_6 => rfl
    all_goals exact absurd (by decide) ha

theorem decode0100_6B_of_bh (hh : h ∉ [.x0, .x2, .x8, .xA]) :
    decode0100 (nibs .x6 .xB :: nibs h l :: t) = none := by
  simp only [decode0100, hiNib_nibs, loNib_nibs]
  split
  case h_5 => rfl
  all_goals exact absurd (by decide) hh

theorem decode0140_6B_of_bh (hh : h ∉ [.x0, .x2, .x8, .xA]) :
    decode0140 (nibs .x6 .xB :: nibs h l :: t) = none := by
  simp only [decode0140, hiNib_nibs, loNib_nibs]
  split
  case h_5 => rfl
  all_goals exact absurd (by decide) hh

theorem decode0100_nib1 {r : RegNum} (ha : a ∈ [0x69, 0x6B, 0x6D, 0x6F]) :
    decode0100 (a :: nibs h r.nib1 :: t) = none := by
  have hforms : a ∈ [nibs .x6 .x9, nibs .x6 .xB, nibs .x6 .xD, nibs .x6 .xF] := ha
  simp only [List.mem_cons, List.not_mem_nil, or_false] at hforms
  rcases hforms with rfl | rfl | rfl | rfl
  all_goals simp [decode0100]

theorem decode0140_of_bl (ha : a ∈ [0x69, 0x6B, 0x6D, 0x6F, 0x78]) (hl : l ≠ .x0) :
    decode0140 (a :: nibs h l :: t) = none := by
  have hforms : a ∈ [nibs .x6 .x9, nibs .x6 .xB, nibs .x6 .xD, nibs .x6 .xF, nibs .x7 .x8] := ha
  simp only [List.mem_cons, List.not_mem_nil, or_false] at hforms
  rcases hforms with rfl | rfl | rfl | rfl | rfl
  all_goals simp only [decode0140, hiNib_nibs, loNib_nibs]
  · split
    case h_3 => rfl
    all_goals exact absurd rfl hl
  · split
    case h_5 => rfl
    all_goals exact absurd rfl hl
  · split
    case h_3 => rfl
    all_goals exact absurd rfl hl
  · split
    case h_3 => rfl
    all_goals exact absurd rfl hl
  · split
    case h_2 => rfl
    all_goals exact absurd rfl hl

theorem decode0100_78_of_bl (hl : l ≠ .x0) : decode0100 (nibs .x7 .x8 :: nibs h l :: t) = none := by
  simp only [decode0100, hiNib_nibs, loNib_nibs]
  split
  · exact absurd rfl hl
  · rfl

theorem decode0140_78_nib1 {r : RegNum} : decode0140 (nibs .x7 .x8 :: nibs r.nib1 l :: t) = none := by
  simp [decode0140]

theorem decode0100_78_of_third (hb : b ≠ 0x6B) : decode0100 (nibs .x7 .x8 :: a :: b :: t) = none := by
  obtain ⟨ch, cl, rfl⟩ := exists_nibs b
  simp only [decode0100, hiNib_nibs, loNib_nibs]
  split
  · next heq =>
    obtain ⟨rfl, -⟩ := List.cons.inj heq
    simp only [hiNib_nibs, loNib_nibs]
    split
    · exact absurd rfl hb
    · exact absurd rfl hb
    · rfl
  · rfl

theorem decode0140_78_of_third (hb : b ≠ 0x6B) : decode0140 (nibs .x7 .x8 :: a :: b :: t) = none := by
  obtain ⟨ch, cl, rfl⟩ := exists_nibs b
  simp only [decode0140, hiNib_nibs, loNib_nibs]
  split
  · next heq =>
    obtain ⟨rfl, -⟩ := List.cons.inj heq
    simp only [hiNib_nibs, loNib_nibs]
    split
    · exact absurd rfl hb
    · exact absurd rfl hb
    · rfl
  · rfl

theorem decode0140_78_of_fourth {d : Byte} (hd : hiNib d ∉ [.x2, .xA] ∨ loNib d ≠ .x0) :
    decode0140 (nibs .x7 .x8 :: a :: nibs .x6 .xB :: d :: t) = none := by
  obtain ⟨dh, dl, rfl⟩ := exists_nibs d
  rw [hiNib_nibs, loNib_nibs] at hd
  simp only [decode0140, hiNib_nibs, loNib_nibs]
  split
  · next heq =>
    simp only [List.cons.injEq] at heq
    obtain ⟨rfl, rfl, rfl⟩ := heq
    simp only [hiNib_nibs, loNib_nibs]
    split
    · simp at hd
    · simp at hd
    · rfl
  · rfl

/-- The direction of MOV.L @(d:24,ERn) stands both in the bit above the address register and in the fourth byte's BH. -/
theorem decode0100_78_of_fourth {y z : Nibble}
    (hd : h ∈ highNibs ∧ y ≠ .xA ∨ h ∉ highNibs ∧ y ≠ .x2 ∨ z ∈ highNibs) :
    decode0100 (nibs .x7 .x8 :: nibs h l :: nibs .x6 .xB :: nibs y z :: t) = none := by
  rw [mem_highNibs, mem_highNibs] at hd
  simp only [decode0100, hiNib_nibs, loNib_nibs]
  split
  · next hreg heq =>
    simp only [List.cons.injEq] at heq
    obtain ⟨rfl, rfl, rfl⟩ := heq
    simp only [hiNib_nibs, loNib_nibs]
    split
    · next hz => simp [hreg, reg0_eq_some.1 hz] at hd
    · next hz => simp [hreg, reg0_eq_some.1 hz] at hd
    · rfl
  · rfl

end Body0100

/-! ## The bodies after 78 and after `01C0`, `01D0`, `01F0` -/

section Body78
variable {b : Byte} {h l : Nibble} {r : RegNum} {t : List Byte}

theorem noInstr_78 {a : Byte} {bs : List Byte} (h : ∀ r t, decode78 r (bs ++ t) = none) :
    noInstr (0x78 :: a :: bs) := by
  obtain ⟨ah, al, rfl⟩ := exists_nibs a
  refine noInstr_page7 (l := .x8) fun t => ?_
  simp only [decode7]
  split
  · exact h _ t
  · rfl

theorem decode78_of_first (hb : b ∉ [0x6A, 0x6B]) : decode78 r (b :: t) = none := by
  obtain ⟨ch, cl, rfl⟩ := exists_nibs b
  cases t with
  | nil => rfl
  | cons d t =>
    simp only [decode78, hiNib_nibs, loNib_nibs]
    split
    case h_5 => rfl
    all_goals exact absurd (by decide) hb

theorem decode78_of_bh {d : Nibble} (hh : h ∉ [.x2, .xA]) : decode78 r (nibs .x6 d :: nibs h l :: t) = none := by
  simp only [decode78, hiNib_nibs, loNib_nibs]
  split
  case h_5 => rfl
  all_goals exact absurd (by decide) hh

theorem decode01_xC_of_first (hb : b ∉ [0x50, 0x52]) : decode01 .xC .x0 (b :: t) = none := by
  obtain ⟨ch, cl, rfl⟩ := exists_nibs b
  cases t with
  | nil => rfl
  | cons d t =>
    simp only [decode01, hiNib_nibs, loNib_nibs]
    split
    case h_3 => rfl
    all_goals exact absurd (by decide) hb

theorem decode01_xD_of_first (hb : b ∉ [0x51, 0x53]) : decode01 .xD .x0 (b :: t) = none := by
  obtain ⟨ch, cl, rfl⟩ := exists_nibs b
  cases t with
  | nil => rfl
  | cons d t =>
    simp only [decode01, hiNib_nibs, loNib_nibs]
    split
    case h_3 => rfl
    all_goals exact absurd (by decide) hb

theorem decode01_xF_of_first (hb : b ∉ [0x64, 0x65, 0x66]) : decode01 .xF .x0 (b :: t) = none := by
  obtain ⟨ch, cl, rfl⟩ := exists_nibs b
  cases t with
  | nil => rfl
  | cons d t =>
    simp only [decode01, hiNib_nibs, loNib_nibs]
    split
    case h_4 => rfl
    all_goals exact absurd (by decide) hb

theorem decode01_xF_of_high (hhl : h ∈ highNibs ∨ l ∈ highNibs) : decode01 .xF .x0 (b :: nibs h l :: t) = none := by
  simp only [decode01, hiNib_nibs, loNib_nibs]
  split
  case h_4 => rfl
  all_goals
    next hs hd => simp [mem_highNibs, reg0_eq_some.1 hs, reg0_eq_some.1 hd] at hhl

theorem decode01_xC_nib1 : decode01 .xC .x0 (nibs .x5 .x2 :: nibs h r.nib1 :: t) = none := by
  simp [decode01]

theorem decode01_xD_nib1 : decode01 .xD .x0 (nibs .x5 .x3 :: nibs h r.nib1 :: t) = none := by
  simp [decode01]

end Body78

/-! ## The prefixes whose first byte is 01 -/

section Prefix01
variable {bs : List Byte}

theorem noInstr_0100 (h : ∀ t, decode0100 (bs ++ t) = none) : noInstr (0x01 :: 0x00 :: bs) :=
  noInstr_page0 (l := .x1) (bh := .x0) (bl := .x0) h

theorem noInstr_0140 (h : ∀ t, decode0140 (bs ++ t) = none) : noInstr (0x01 :: 0x40 :: bs) :=
  noInstr_page0 (l := .x1) (bh := .x4) (bl := .x0) h

theorem noInstr_01C0 (h : ∀ t, decode01 .xC .x0 (bs ++ t) = none) : noInstr (0x01 :: 0xC0 :: bs) :=
  noInstr_page0 (l := .x1) (bh := .xC) (bl := .x0) h

theorem noInstr_01D0 (h : ∀ t, decode01 .xD .x0 (bs ++ t) = none) : noInstr (0x01 :: 0xD0 :: bs) :=
  noInstr_page0 (l := .x1) (bh := .xD) (bl := .x0) h

theorem noInstr_01F0 (h : ∀ t, decode01 .xF .x0 (bs ++ t) = none) : noInstr (0x01 :: 0xF0 :: bs) :=
  noInstr_page0 (l := .x1) (bh := .xF) (bl := .x0) h

end Prefix01

/-! ## The bodies of the bit instructions (R106) -/

/-- Bytes that begin no read-type body, whichever operand stands before them. -/
def NoBitRead (bs : List Byte) : Prop :=
  ∀ t tstR tst bor bior bxor bixor band biand bld bild,
    decodeBitRead (bs ++ t) tstR tst bor bior bxor bixor band biand bld bild = none

/-- Bytes that begin no write-type body, whichever operand stands before them. -/
def NoBitWrite (bs : List Byte) : Prop :=
  ∀ t setR notR clrR set not clr st ist, decodeBitWrite (bs ++ t) setR notR clrR set not clr st ist = none

section BitBodies
variable {a b : Byte} {h l : Nibble} {r : RegNum} {bs : List Byte}

theorem noInstr_7C (hbs : NoBitRead bs) : noInstr (0x7C :: a :: bs) := by
  obtain ⟨ah, al, rfl⟩ := exists_nibs a
  refine noInstr_page7 (l := .xC) fun t => ?_
  simp only [decode7]
  split
  · exact hbs ..
  · rfl

theorem noInstr_7D (hbs : NoBitWrite bs) : noInstr (0x7D :: a :: bs) := by
  obtain ⟨ah, al, rfl⟩ := exists_nibs a
  refine noInstr_page7 (l := .xD) fun t => ?_
  simp only [decode7]
  split
  · exact hbs ..
  · rfl

theorem noInstr_7E (hbs : NoBitRead bs) : noInstr (0x7E :: a :: bs) := by
  obtain ⟨ah, al, rfl⟩ := exists_nibs a
  refine noInstr_page7 (l := .xE) fun t => ?_
  simp only [decode7]
  exact hbs ..

theorem noInstr_7F (hbs : NoBitWrite bs) : noInstr (0x7F :: a :: bs) := by
  obtain ⟨ah, al, rfl⟩ := exists_nibs a
  refine noInstr_page7 (l := .xF) fun t => ?_
  simp only [decode7]
  exact hbs ..

theorem noBitRead_of_first (hb : b ∉ [0x63, 0x73, 0x74, 0x75, 0x76, 0x77]) : NoBitRead [b] := by
  obtain ⟨ch, cl, rfl⟩ := exists_nibs b
  intro t
  intros
  cases t with
  | nil => rfl
  | cons d t =>
    simp only [decodeBitRead, List.cons_append, List.nil_append, hiNib_nibs, loNib_nibs]
    split
    · split
      case h_7 => rfl
      all_goals exact absurd (by decide) hb
    · rfl

theorem noBitWrite_of_first (hb : b ∉ [0x60, 0x61, 0x62, 0x67, 0x70, 0x71, 0x72]) : NoBitWrite [b] := by
  obtain ⟨ch, cl, rfl⟩ := exists_nibs b
  intro t
  intros
  cases t with
  | nil => rfl
  | cons d t =>
    simp only [decodeBitWrite, List.cons_append, List.nil_append, hiNib_nibs, loNib_nibs]
    split
    · split
      case h_8 => rfl
      all_goals exact absurd (by decide) hb
    · rfl

theorem noBitRead_of_bl (hl : l ≠ .x0) : NoBitRead [b, nibs h l] := by
  intro t
  intros
  simp only [decodeBitRead, List.cons_append, loNib_nibs]

theorem noBitWrite_of_bl (hl : l ≠ .x0) : NoBitWrite [b, nibs h l] := by
  intro t
  intros
  simp only [decodeBitWrite, List.cons_append, loNib_nibs]

theorem noBitRead_73_nib1 : NoBitRead [nibs .x7 .x3, nibs r.nib1 l] := by
  intro t
  intros
  simp only [decodeBitRead, List.cons_append, List.nil_append, hiNib_nibs, loNib_nibs, bit0_nib1]
  cases l <;> rfl

theorem noBitWrite_nib1 (hb : b ∈ [0x70, 0x71, 0x72]) : NoBitWrite [b, nibs r.nib1 l] := by
  have hforms : b ∈ [nibs .x7 .x0, nibs .x7 .x1, nibs .x7 .x2] := hb
  simp only [List.mem_cons, List.not_mem_nil, or_false] at hforms
  intro t
  intros
  rcases hforms with rfl | rfl | rfl
  all_goals
    simp only [decodeBitWrite, List.cons_append, List.nil_append, hiNib_nibs, loNib_nibs, bit0_nib1]
    cases l <;> rfl

/-- Only BL = 0 ends a body. -/
theorem noInstr_bit_of_bl (hl : l ≠ .x0) :
    ∀ c ∈ ([0x7C, 0x7D, 0x7E, 0x7F] : List Byte), noInstr [c, a, b, nibs h l] := by
  simp only [List.forall_mem_cons]
  exact ⟨noInstr_7C (noBitRead_of_bl hl), noInstr_7D (noBitWrite_of_bl hl), noInstr_7E (noBitRead_of_bl hl),
    noInstr_7F (noBitWrite_of_bl hl), List.forall_mem_nil _⟩

end BitBodies

/-! ## The zero byte before a 24-bit address or displacement -/

section NonzeroByte
variable {a b : Byte} {h l : Nibble} {r : RegNum} {t : List Byte}

theorem decode6_xA_of_ne_zero (hb : b ≠ 0) (hh : h ∈ [.x2, .xA]) : decode6 .xA h l (b :: t) = none := by
  cases h
  case x2 | xA =>
    simp only [decode6]
    exact ext24_of_ne_zero hb ..
  all_goals simp at hh

theorem decode6_xB_of_ne_zero (hb : b ≠ 0) (hh : h ∈ [.x2, .xA]) : decode6 .xB h l (b :: t) = none := by
  cases h
  case x2 | xA =>
    simp only [decode6]
    exact ext24_of_ne_zero hb ..
  all_goals simp at hh

theorem decode0100_6B_of_ne_zero (hb : b ≠ 0) (hh : h ∈ [.x2, .xA]) :
    decode0100 (nibs .x6 .xB :: nibs h l :: b :: t) = none := by
  simp only [decode0100, hiNib_nibs, loNib_nibs]
  split
  case h_2 | h_4 => exact ext24_of_ne_zero hb ..
  case h_5 => rfl
  all_goals simp at hh

theorem decode0140_6B_of_ne_zero (hb : b ≠ 0) (hh : h ∈ [.x2, .xA]) :
    decode0140 (nibs .x6 .xB :: nibs h l :: b :: t) = none := by
  simp only [decode0140, hiNib_nibs, loNib_nibs]
  split
  case h_2 | h_4 => exact ext24_of_ne_zero hb ..
  case h_5 => rfl
  all_goals simp at hh

theorem decode78_of_ne_zero (hb : b ≠ 0) : decode78 r (a :: nibs h l :: b :: t) = none := by
  simp only [decode78]
  split
  case h_5 => rfl
  all_goals exact ext24_of_ne_zero hb ..

theorem decode0100_78_of_ne_zero {c d : Byte} (hb : b ≠ 0) :
    decode0100 (nibs .x7 .x8 :: a :: c :: d :: b :: t) = none := by
  simp only [decode0100, hiNib_nibs, loNib_nibs]
  split
  · next heq =>
    simp only [List.cons.injEq] at heq
    obtain ⟨rfl, rfl, rfl⟩ := heq
    split
    case h_3 => rfl
    all_goals exact ext24_of_ne_zero hb ..
  · rfl

theorem decode0140_78_of_ne_zero {c d : Byte} (hb : b ≠ 0) :
    decode0140 (nibs .x7 .x8 :: a :: c :: d :: b :: t) = none := by
  simp only [decode0140, hiNib_nibs, loNib_nibs]
  split
  · next heq =>
    simp only [List.cons.injEq] at heq
    obtain ⟨rfl, rfl, rfl⟩ := heq
    split
    case h_3 => rfl
    all_goals exact ext24_of_ne_zero hb ..
  · rfl

end NonzeroByte

/-! ## Lists of first bytes -/

section ByteLists
variable {h l : Nibble}

theorem noInstr_of_bh : ∀ p ∈ ([(0x01, [.x0, .x4, .x8, .xC, .xD, .xF]), (0x0A, .x0 :: highNibs), (0x0F, .x0 :: highNibs),
      (0x1A, .x0 :: highNibs), (0x1F, .x0 :: highNibs), (0x0B, [.x0, .x5, .x7, .x8, .x9, .xD, .xF]),
      (0x1B, [.x0, .x5, .x7, .x8, .x9, .xD, .xF]), (0x10, [.x0, .x1, .x3, .x8, .x9, .xB]),
      (0x11, [.x0, .x1, .x3, .x8, .x9, .xB]), (0x12, [.x0, .x1, .x3, .x8, .x9, .xB]),
      (0x13, [.x0, .x1, .x3, .x8, .x9, .xB]), (0x17, [.x0, .x1, .x3, .x5, .x7, .x8, .x9, .xB, .xD, .xF]),
      (0x79, [.x0, .x1, .x2, .x3, .x4, .x5, .x6]), (0x7A, [.x0, .x1, .x2, .x3, .x4, .x5, .x6]),
      (0x6A, [.x0, .x2, .x4, .x8, .xA, .xC]), (0x6B, [.x0, .x2, .x8, .xA])] : List (Byte × List Nibble)),
    h ∉ p.2 → noInstr [p.1, nibs h l] := by
  simp only [List.forall_mem_cons]
  exact ⟨fun hh => noInstr_page0 (l := .x1) fun _ => decode01_of_bh hh,
    fun hh => noInstr_page0 (l := .xA) fun _ => decodeA_of_bh hh,
    fun hh => noInstr_page0 (l := .xF) fun _ => decodeA_of_bh hh,
    fun hh => noInstr_page1 (l := .xA) (decodeA_of_bh hh),
    fun hh => noInstr_page1 (l := .xF) (decodeA_of_bh hh),
    fun hh => noInstr_page0 (l := .xB) fun _ => decode0B_of_bh hh,
    fun hh => noInstr_page1 (l := .xB) (decode1B_of_bh hh),
    fun hh => noInstr_page1 (l := .x0) (decodeShift_of_bh hh),
    fun hh => noInstr_page1 (l := .x1) (decodeShift_of_bh hh),
    fun hh => noInstr_page1 (l := .x2) (decodeShift_of_bh hh),
    fun hh => noInstr_page1 (l := .x3) (decodeShift_of_bh hh),
    fun hh => noInstr_page1 (l := .x7) (decode17_of_bh hh),
    fun hh => noInstr_page7 (l := .x9) fun _ => decode79_of_bh hh,
    fun hh => noInstr_page7 (l := .xA) fun _ => decode7A_of_bh hh,
    fun hh => noInstr_page6 (l := .xA) fun _ => decode6_xA_of_bh hh,
    fun hh => noInstr_page6 (l := .xB) fun _ => decode6_xB_of_bh hh,
    List.forall_mem_nil _⟩

theorem ne_x0_of_mem (hh : h ∈ highNibs) : h ≠ .x0 := by
  rintro rfl
  simp [highNibs] at hh

theorem noInstr_of_bl_high (hl : l ∈ highNibs) : ∀ p ∈ ([(0x0A, highNibs), (0x0F, highNibs), (0x1A, highNibs),
      (0x1F, highNibs), (0x0B, [.x0, .x7, .x8, .x9, .xF]), (0x1B, [.x0, .x7, .x8, .x9, .xF]), (0x10, [.x3, .xB]),
      (0x11, [.x3, .xB]), (0x12, [.x3, .xB]), (0x13, [.x3, .xB]), (0x17, [.x3, .x7, .xB, .xF]),
      (0x7A, [.x0, .x1, .x2, .x3, .x4, .x5, .x6])] : List (Byte × List Nibble)), h ∈ p.2 → noInstr [p.1, nibs h l] := by
  obtain ⟨r, rfl⟩ := exists_nib1_of_mem hl
  simp only [List.forall_mem_cons]
  exact ⟨fun hh => noInstr_page0 (l := .xA) fun _ => decodeA_nib1_right (ne_x0_of_mem hh),
    fun hh => noInstr_page0 (l := .xF) fun _ => decodeA_nib1_right (ne_x0_of_mem hh),
    fun hh => noInstr_page1 (l := .xA) (decodeA_nib1_right (ne_x0_of_mem hh)),
    fun hh => noInstr_page1 (l := .xF) (decodeA_nib1_right (ne_x0_of_mem hh)),
    fun hh => noInstr_page0 (l := .xB) fun _ => decode0B_nib1 hh,
    fun hh => noInstr_page1 (l := .xB) (decode1B_nib1 hh),
    fun hh => noInstr_page1 (l := .x0) (decodeShift_nib1 hh),
    fun hh => noInstr_page1 (l := .x1) (decodeShift_nib1 hh),
    fun hh => noInstr_page1 (l := .x2) (decodeShift_nib1 hh),
    fun hh => noInstr_page1 (l := .x3) (decodeShift_nib1 hh),
    fun hh => noInstr_page1 (l := .x7) (decode17_nib1 hh),
    fun _ => noInstr_page7 (l := .xA) fun _ => decode7A_nib1,
    List.forall_mem_nil _⟩

theorem noInstr_mulxu_divxu_of_bl_high (hl : l ∈ highNibs) : noInstr [0x52, nibs h l] ∧ noInstr [0x53, nibs h l] := by
  obtain ⟨r, rfl⟩ := exists_nib1_of_mem hl
  exact ⟨noInstr_page5 (l := .x2) fun _ => by simp [decode5], noInstr_page5 (l := .x3) fun _ => by simp [decode5]⟩

theorem noInstr_of_bh_high (hh : h ∈ highNibs) :
    ∀ c ∈ ([0x59, 0x5D, 0x70, 0x71, 0x72, 0x73, 0x78, 0x7C, 0x7D] : List Byte), noInstr [c, nibs h l] := by
  obtain ⟨r, rfl⟩ := exists_nib1_of_mem hh
  simp only [List.forall_mem_cons]
  exact ⟨noInstr_page5 (l := .x9) fun _ => by simp [decode5],
    noInstr_page5 (l := .xD) fun _ => by simp [decode5],
    noInstr_page7 (l := .x0) fun _ => by simp [decode7],
    noInstr_page7 (l := .x1) fun _ => by simp [decode7],
    noInstr_page7 (l := .x2) fun _ => by simp [decode7],
    noInstr_page7 (l := .x3) fun _ => by simp [decode7],
    noInstr_page7 (l := .x8) fun _ => by simp [decode7],
    noInstr_page7 (l := .xC) fun _ => by simp [decode7],
    noInstr_page7 (l := .xD) fun _ => by simp [decode7],
    List.forall_mem_nil _⟩

theorem noInstr_of_bl (hl : l ≠ .x0) :
    ∀ c ∈ ([0x01, 0x57, 0x58, 0x59, 0x5D, 0x78, 0x7C, 0x7D] : List Byte), noInstr [c, nibs h l] := by
  simp only [List.forall_mem_cons]
  exact ⟨noInstr_page0 (l := .x1) fun _ => decode01_of_bl hl,
    noInstr_page5 (l := .x7) fun _ => decode5_of_bl (by decide) hl,
    noInstr_page5 (l := .x8) fun _ => decode5_of_bl (by decide) hl,
    noInstr_page5 (l := .x9) fun _ => decode5_of_bl (by decide) hl,
    noInstr_page5 (l := .xD) fun _ => decode5_of_bl (by decide) hl,
    noInstr_page7 (l := .x8) fun _ => decode7_of_bl (by decide) hl,
    noInstr_page7 (l := .xC) fun _ => decode7_of_bl (by decide) hl,
    noInstr_page7 (l := .xD) fun _ => decode7_of_bl (by decide) hl,
    List.forall_mem_nil _⟩

/-- In a body: the fixed bit above the register the last nibble names. -/
theorem noInstr_body_of_bl_high (hl : l ∈ highNibs) :
    noInstr [0x01, 0xC0, 0x52, nibs h l] ∧ noInstr [0x01, 0xD0, 0x53, nibs h l] ∧
      ∀ c ∈ ([0x69, 0x6B, 0x6D, 0x6F] : List Byte), noInstr [0x01, 0x00, c, nibs h l] := by
  obtain ⟨r, rfl⟩ := exists_nib1_of_mem hl
  exact ⟨noInstr_01C0 fun _ => decode01_xC_nib1, noInstr_01D0 fun _ => decode01_xD_nib1,
    fun c hc => noInstr_0100 fun _ => decode0100_nib1 hc⟩

/-- In a body of a bit instruction: the fixed bit above the bit number. -/
theorem noInstr_bit_of_bh_high {a : Byte} (hh : h ∈ highNibs) :
    noInstr [0x7C, a, 0x73, nibs h l] ∧ noInstr [0x7E, a, 0x73, nibs h l] ∧
      ∀ c ∈ ([0x70, 0x71, 0x72] : List Byte), noInstr [0x7D, a, c, nibs h l] ∧ noInstr [0x7F, a, c, nibs h l] := by
  obtain ⟨r, rfl⟩ := exists_nib1_of_mem hh
  exact ⟨noInstr_7C noBitRead_73_nib1, noInstr_7E noBitRead_73_nib1,
    fun c hc => ⟨noInstr_7D (noBitWrite_nib1 hc), noInstr_7F (noBitWrite_nib1 hc)⟩⟩

theorem noInstr_of_nonzero_byte {a b : Byte} (hb : b ≠ 0) (hh : h ∈ [.x2, .xA]) :
    noInstr [0x6A, nibs h l, b] ∧ noInstr [0x6B, nibs h l, b] ∧ noInstr [0x01, 0x00, 0x6B, nibs h l, b] ∧
      noInstr [0x01, 0x40, 0x6B, nibs h l, b] ∧ noInstr [0x78, a, 0x6A, nibs h l, b] ∧
      noInstr [0x78, a, 0x6B, nibs h l, b] ∧ noInstr [0x01, 0x00, 0x78, a, 0x6B, nibs h l, b] ∧
      noInstr [0x01, 0x40, 0x78, a, 0x6B, nibs h l, b] :=
  ⟨noInstr_page6 (l := .xA) fun _ => decode6_xA_of_ne_zero hb hh,
    noInstr_page6 (l := .xB) fun _ => decode6_xB_of_ne_zero hb hh,
    noInstr_0100 fun _ => decode0100_6B_of_ne_zero hb hh, noInstr_0140 fun _ => decode0140_6B_of_ne_zero hb hh,
    noInstr_78 fun _ _ => decode78_of_ne_zero hb, noInstr_78 fun _ _ => decode78_of_ne_zero hb,
    noInstr_0100 fun _ => decode0100_78_of_ne_zero hb, noInstr_0140 fun _ => decode0140_78_of_ne_zero hb⟩

end ByteLists

/-! ## The step -/

theorem step_of_fetch_none {s : State} (hs : s.pstate = .programExecution) (hin : s.inputs = []) (hf : s.fetch = none) :
    step s = .refused .undefinedInstruction := by
  rw [step_of_no_event hin, boundary_of_none_taken hs (.inr (by simp))]
  simp [runInstruction, hf]

/-- Settles O4: a step without an instruction stops; then each kind of undefined encoding by the lemma about the decoder
its first byte leads to. -/
theorem undefinedEncodingStops : Obligations.UndefinedEncodingStops := by
  unfold Obligations.UndefinedEncodingStops
  refine ⟨fun _ => step_of_fetch_none, fun h l y z a b => ?_⟩
  refine ⟨noInstr_of_bh, noInstr_of_bl_high, noInstr_mulxu_divxu_of_bl_high, noInstr_of_bh_high, noInstr_of_bl, ?_⟩
  refine ⟨fun hh => noInstr_page5 (l := .x7) fun _ => decode5_x7_of_bh hh,
    fun hh => ⟨noInstr_page0 (l := .x2) fun _ => decode0_of_bh (by decide) hh,
      noInstr_page0 (l := .x3) fun _ => decode0_of_bh (by decide) hh⟩,
    fun ha => ⟨noInstr_00_of_ne ha, noInstr_5C_of_ne ha⟩,
    fun ha => ⟨noInstr_54_of_ne ha, noInstr_56_of_ne ha⟩,
    fun ha => noInstr_7B fun _ => decode7B_of_second (by rwa [nibs_hiNib_loNib]),
    fun hb => noInstr_7B fun _ => decode7B_of_third hb,
    fun hb => noInstr_7B fun _ => decode7B_of_fourth hb, ?_⟩
  refine ⟨fun ha => ⟨noInstr_0100 fun _ => decode0100_of_first ha, noInstr_0140 fun _ => decode0140_of_first ha⟩,
    fun ha => noInstr_01C0 fun _ => decode01_xC_of_first ha,
    fun ha => noInstr_01D0 fun _ => decode01_xD_of_first ha,
    fun ha => noInstr_01F0 fun _ => decode01_xF_of_first ha,
    fun hb => noInstr_78 fun _ _ => decode78_of_first hb,
    fun hb => ⟨noInstr_0100 fun _ => decode0100_78_of_third hb, noInstr_0140 fun _ => decode0140_78_of_third hb⟩,
    fun hb => ⟨noInstr_7C (bs := [b]) (noBitRead_of_first hb), noInstr_7E (noBitRead_of_first hb)⟩,
    fun hb => ⟨noInstr_7D (noBitWrite_of_first hb), noInstr_7F (noBitWrite_of_first hb)⟩, ?_⟩
  refine ⟨fun hh => ⟨noInstr_0100 fun _ => decode0100_6B_of_bh hh, noInstr_0140 fun _ => decode0140_6B_of_bh hh⟩,
    fun hh => ⟨noInstr_78 fun _ _ => decode78_of_bh (d := .xA) hh, noInstr_78 fun _ _ => decode78_of_bh (d := .xB) hh,
      noInstr_0140 fun _ => decode0140_78_of_fourth (.inl (by rwa [hiNib_nibs]))⟩,
    noInstr_body_of_bl_high,
    fun hhl c _ => noInstr_01F0 fun _ => decode01_xF_of_high hhl,
    fun hl c hc => noInstr_0140 fun _ => decode0140_of_bl hc hl, ?_⟩
  refine ⟨fun hh => ?_,
    fun hl => noInstr_0140 fun _ => decode0140_78_of_fourth (.inr (by rwa [loNib_nibs])),
    fun hl => noInstr_0100 fun _ => decode0100_78_of_bl hl,
    fun hd => noInstr_0100 fun _ => decode0100_78_of_fourth hd,
    noInstr_bit_of_bl, noInstr_bit_of_bh_high, fun hb => ?_⟩
  · obtain ⟨r, rfl⟩ := exists_nib1_of_mem hh
    exact noInstr_0140 fun _ => decode0140_78_nib1
  · simp only [List.forall_mem_cons]
    exact ⟨noInstr_of_nonzero_byte hb (by decide), noInstr_of_nonzero_byte hb (by decide), List.forall_mem_nil _⟩

end Sys2Proof
end

section
/-! SUPPORT. What the register operations do, and the data transfer instructions by the shapes they are. -/

namespace Sys2Proof.Machine

/-! ## Register operations (R122 to R127) -/

section RegisterOperations
variable (len : Nat) (s : State)

theorem alu8_spec (rd : Reg8) (f : Byte → Ccr → Byte × Ccr) : ∃ t, alu8 len rd f s = .next t ∧
    wrote8 rd (f (s.reg8 rd) s.ccr).1 s t ∧ t.ccr = (f (s.reg8 rd) s.ccr).2 ∧ keptButRegs len s t :=
  ⟨_, rfl, wrote8_setReg8 s rd _, rfl, rfl, ⟨rfl, fun _ => rfl⟩, rfl, rfl, rfl, rfl, rfl, rfl⟩

theorem alu16_spec (rd : Reg16) (f : Word → Ccr → Word × Ccr) : ∃ t, alu16 len rd f s = .next t ∧
    wrote16 rd (f (s.reg16 rd) s.ccr).1 s t ∧ t.ccr = (f (s.reg16 rd) s.ccr).2 ∧ keptButRegs len s t :=
  ⟨_, rfl, wrote16_setReg16 s rd _, rfl, rfl, ⟨rfl, fun _ => rfl⟩, rfl, rfl, rfl, rfl, rfl, rfl⟩

theorem alu32_spec (erd : RegNum) (f : Long → Ccr → Long × Ccr) : ∃ t, alu32 len erd f s = .next t ∧
    wrote32 erd (f (s.reg32 erd) s.ccr).1 s t ∧ t.ccr = (f (s.reg32 erd) s.ccr).2 ∧ keptButRegs len s t :=
  ⟨_, rfl, wrote32_setReg32 s erd _, rfl, rfl, ⟨rfl, fun _ => rfl⟩, rfl, rfl, rfl, rfl, rfl, rfl⟩

end RegisterOperations

/-- Settles O10: each form is a register operation whose result and flags are those of the datum. -/
theorem moveToRegister : Obligations.MoveToRegister := by
  intro s rs8 rd8 rs16 rd16 ers erd i8 i16 i32
  simp only [List.forall_mem_cons]
  refine ⟨⟨?_, ?_, List.forall_mem_nil _⟩, ⟨?_, ?_, List.forall_mem_nil _⟩, ⟨?_, ?_, List.forall_mem_nil _⟩⟩
  · exact alu8_spec 2 s rd8 (movOp (s.reg8 rs8))
  · exact alu8_spec 2 s rd8 (movOp i8)
  · exact alu16_spec 2 s rd16 (movOp (s.reg16 rs16))
  · exact alu16_spec 4 s rd16 (movOp i16)
  · exact alu32_spec 2 s erd (movOp (s.reg32 ers))
  · exact alu32_spec 6 s erd (movOp i32)

/-! ## Loads that leave the address register, and POP (R128 to R130, R132 to R134, R148, R150, R151) -/

/-- Settles O11: each form is a byte load at the address named; MOVFPE is one once its guard has let it through. -/
theorem loadByte : Obligations.LoadByte := by
  intro s ers rd d16 d24 a8 a16 a24
  simp only [List.forall_mem_cons]
  refine ⟨⟨load8_spec 2 (s.eaInd ers) s rd, load8_spec 4 (s.eaDisp16 ers d16) s rd, load8_spec 8 (s.eaDisp24 ers d24) s rd,
    load8_spec 2 (eaAbs8 a8) s rd, load8_spec 4 (eaAbs16 a16) s rd, load8_spec 6 a24 s rd, List.forall_mem_nil _⟩,
    fun hclock => ?_⟩
  change ∃ t, execMovfpe a16 rd s = .next t ∧ _
  rw [execMovfpe, guardEclock_of_clock hclock]
  exact load8_spec 4 (eaAbs16 a16) s rd

/-- Settles O12: each form is a word or long load at the address named. -/
theorem loadWordAndLong : Obligations.LoadWordAndLong := by
  intro s ers erd rd d16 d24 a16 a24
  simp only [List.forall_mem_cons]
  constructor
  · exact ⟨load16_spec 2 (s.eaInd ers) s rd, load16_spec 4 (s.eaDisp16 ers d16) s rd,
      load16_spec 8 (s.eaDisp24 ers d24) s rd, load16_spec 4 (eaAbs16 a16) s rd, load16_spec 6 a24 s rd,
      List.forall_mem_nil _⟩
  · exact ⟨load32_spec 4 (s.eaInd ers) s erd, load32_spec 6 (s.eaDisp16 ers d16) s erd,
      load32_spec 10 (s.eaDisp24 ers d24) s erd, load32_spec 6 (eaAbs16 a16) s erd, load32_spec 8 a24 s erd,
      List.forall_mem_nil _⟩

/-- Settles O14: POP is the load with post-increment of ER7 (R111), which an even SP lets through. -/
theorem popFromStack : Obligations.PopFromStack := by
  intro s rn ern hsp
  obtain ⟨-, hinc⟩ := loadPostIncrement s .r7 ern { low := false, n := .r0 } rn
  exact hinc fun _ => hsp

/-! ## Stores that leave the address register, and PUSH (R135 to R137, R139 to R141, R149, R152, R153) -/

/-- Settles O15: each form is a byte store at the address named; MOVTPE is one once its guard has let it through. -/
theorem storeByte : Obligations.StoreByte := by
  intro s rs erd d16 d24 a8 a16 a24 h
  have hbyte {len : Nat} {ea : Addr} (hea : s.evenAddr ea ≠ s.nextPc len) := store8_spec h hea rs
  simp only [List.forall_mem_cons]
  refine ⟨⟨hbyte, hbyte, hbyte, hbyte, hbyte, hbyte, List.forall_mem_nil _⟩, fun hclock hea => ?_⟩
  change ∃ t, execMovtpe rs a16 s = .next t ∧ _
  rw [execMovtpe, guardEclock_of_clock hclock]
  exact hbyte hea

/-- Settles O16: each form is a word or long store at the address named. -/
theorem storeWordAndLong : Obligations.StoreWordAndLong := by
  intro s rs ers erd d16 d24 a16 a24 h
  have hword {len : Nat} {ea : Addr} (hea : s.evenAddr ea ≠ s.nextPc len) := store16_spec h hea rs
  have hlong {len : Nat} {ea : Addr} (hea : s.evenAddr ea ≠ s.nextPc len)
      (hlow : s.evenAddr (ea + 2#24) ≠ s.nextPc len) := store32_spec h hea hlow ers
  simp only [List.forall_mem_cons]
  exact ⟨⟨hword, hword, hword, hword, hword, List.forall_mem_nil _⟩,
    ⟨hlong, hlong, hlong, hlong, hlong, List.forall_mem_nil _⟩⟩

/-- Settles O18: PUSH is the store with pre-decrement of ER7 (R111), which an even SP lets through; PUSH.L is that of the
low-order word first. -/
theorem pushOnStack : Obligations.PushOnStack := by
  intro s rn ern h hsp u2 u4
  obtain ⟨-, hword, hlong⟩ := storePreDecrement s { low := false, n := .r0 } rn ern .r7 h
  exact ⟨hword fun _ => hsp, hlong fun _ => hsp⟩

end Sys2Proof.Machine
end

section
/-! SUPPORT. The words the spec's examples write out. -/

namespace Sys2Proof

theorem decode_of_encode_eq {i : Instr} (hi : i.wellFormed = true) {bs : List Byte} (h : encode i = bs) :
    decode bs = some i := by
  simpa [h] using decodeOfEncode i [] hi

/-- Settles O3: each word is the encoding of the instruction it stands for, which is well formed. -/
theorem specExampleWordsDecode : Obligations.SpecExampleWordsDecode :=
  ⟨decode_of_encode_eq rfl rfl, decode_of_encode_eq rfl rfl, decode_of_encode_eq rfl rfl, decode_of_encode_eq rfl rfl,
    decode_of_encode_eq rfl rfl, decode_of_encode_eq rfl rfl, decode_of_encode_eq rfl rfl, decode_of_encode_eq rfl rfl,
    decode_of_encode_eq rfl rfl, decode_of_encode_eq rfl rfl, decode_of_encode_eq rfl rfl⟩

end Sys2Proof
end

section
/-! SUPPORT. The carries and borrows of R160 as the Boolean formulas of Table 2.7, and what the flags of a subtraction say
about its operands. -/

namespace Sys2Proof.Machine

/-! ## Carries (R160) -/

/-- The carry out of bit `i`, from that bit of the source, of the destination and of the result: Table 2.7's formula. -/
theorem carry_succ_eq_table {w i : Nat} (hi : i < w) (d s : BitVec w) (cin : Bool) :
    let r := d + s + (BitVec.ofBool cin).setWidth w
    BitVec.carry (i + 1) d s cin =
      (s.getLsbD i && d.getLsbD i || d.getLsbD i && !r.getLsbD i || s.getLsbD i && !r.getLsbD i) := by
  have table : ∀ a b k : Bool,
      a.atLeastTwo b k = (b && a || a && !(a ^^ (b ^^ k)) || b && !(a ^^ (b ^^ k))) := by decide
  dsimp only
  rw [BitVec.carry_succ, BitVec.getLsbD_add_add_bool hi]
  exact table _ _ _

/-- An overflow is a result whose sign differs from the one sign both operands have. -/
theorem overflow_eq_table : ∀ d s r : Bool,
    ((d == s) && (r != d)) = (s && d && !r || !s && !d && r) := by decide

theorem toNat_setWidth_ofBool {w : Nat} (hw : 0 < w) (b : Bool) : ((BitVec.ofBool b).setWidth w).toNat = b.toNat := by
  rw [BitVec.toNat_setWidth, BitVec.toNat_ofBool]
  exact Nat.mod_eq_of_lt (b.toNat_lt.trans_le (Nat.pow_le_pow_right (Nat.succ_pos 1) hw))

theorem toNat_addFlags_r {w : Nat} (hw : 0 < w) (d s : BitVec w) (cin : Bool) :
    (addFlags d s cin).r.toNat = (d.toNat + s.toNat + cin.toNat) % 2 ^ w := by
  rw [addFlags, BitVec.toNat_add, BitVec.toNat_add, toNat_setWidth_ofBool hw, Nat.mod_add_mod]

/-! ## Subtraction as the addition of the complement -/

theorem sub_sub_ofBool {w : Nat} (d s : BitVec w) (b : Bool) :
    d - s - (BitVec.ofBool b).setWidth w = d + ~~~s + (BitVec.ofBool !b).setWidth w := by
  have hzero : (BitVec.ofBool false).setWidth w = 0#w := by simp
  have hone : (BitVec.ofBool true).setWidth w = 1#w := BitVec.eq_of_toNat_eq (by simp)
  rw [BitVec.sub_eq_add_neg d s, BitVec.neg_eq_not_add, ← BitVec.add_assoc]
  cases b with
  | false => rw [Bool.not_false, hzero, hone, BitVec.sub_zero]
  | true => rw [Bool.not_true, hzero, hone, BitVec.add_sub_cancel, BitVec.add_zero]

theorem toNat_not_bool (b : Bool) : (!b).toNat = 1 - b.toNat := by
  cases b with
  | false => rfl
  | true => rfl

/-- A borrow into bit `i` is the carry that the addition of the complement lacks there. -/
theorem borrow_eq_not_carry {w i : Nat} (hi : i ≤ w) (d s : BitVec w) (b : Bool) :
    decide (d.toNat % 2 ^ i < s.toNat % 2 ^ i + b.toNat) = !BitVec.carry i d (~~~s) (!b) := by
  have hnot : (~~~s).toNat % 2 ^ i = 2 ^ i - 1 - s.toNat % 2 ^ i := by
    rw [← BitVec.toNat_setWidth, BitVec.setWidth_not hi, BitVec.toNat_not, BitVec.toNat_setWidth]
  have hlt : s.toNat % 2 ^ i < 2 ^ i := Nat.mod_lt _ (Nat.two_pow_pos i)
  have hb := b.toNat_lt
  rw [BitVec.carry, hnot, toNat_not_bool, ← decide_not, decide_eq_decide]
  omega

theorem msb_not_of_pos {w : Nat} (hw : 0 < w) (s : BitVec w) : (~~~s).msb = !s.msb := by
  rw [BitVec.msb_not, decide_eq_true hw, Bool.true_and]

/-- SubFlags is AddFlags of the complement with H and C as borrows. -/
theorem subFlags_eq_addFlags {w : Nat} (d s : BitVec w) (b : Bool) (hw : 0 < w) :
    subFlags d s b =
      { addFlags d (~~~s) (!b) with h := !(addFlags d (~~~s) (!b)).h, c := !(addFlags d (~~~s) (!b)).c } := by
  have hhalf : decide (d.toNat % 2 ^ (w - 4) < s.toNat % 2 ^ (w - 4) + b.toNat) = !(addFlags d (~~~s) (!b)).h :=
    borrow_eq_not_carry (Nat.sub_le w 4) d s b
  have hcarry : decide (d.toNat < s.toNat + b.toNat) = !(addFlags d (~~~s) (!b)).c := by
    have h := borrow_eq_not_carry le_rfl d s b
    rwa [BitVec.carry_width, Nat.mod_eq_of_lt d.isLt, Nat.mod_eq_of_lt s.isLt] at h
  have differ_eq : ∀ x y : Bool, (x != y) = (x == !y) := by decide
  have hsign : (d.msb != s.msb) = (d.msb == (~~~s).msb) := by
    rw [msb_not_of_pos hw]
    exact differ_eq d.msb s.msb
  simp only [subFlags, hhalf, hcarry, sub_sub_ofBool, hsign]
  rfl

theorem toNat_subFlags_r {w : Nat} (hw : 0 < w) (d s : BitVec w) (b : Bool) :
    ((subFlags d s b).r.toNat : Int) = ((d.toNat : Int) - s.toNat - b.toNat) % 2 ^ w := by
  have hs := s.isLt
  have hb := b.toNat_lt
  have hr : (subFlags d s b).r = (addFlags d (~~~s) (!b)).r := sub_sub_ofBool d s b
  have hsum : ((d.toNat + (~~~s).toNat + (!b).toNat : Nat) : Int) = (d.toNat : Int) - s.toNat - b.toNat + 2 ^ w := by
    have hcast : ((2 ^ w : Nat) : Int) = 2 ^ w := by simp
    rw [BitVec.toNat_not, toNat_not_bool, ← hcast]
    omega
  rw [hr, toNat_addFlags_r hw, Int.natCast_emod, hsum, Nat.cast_pow, Nat.cast_ofNat, Int.add_emod_right]

/-! ## Table 2.7 -/

theorem addFlags_h {w : Nat} (hw : 4 < w) (d s : BitVec w) (cin : Bool) :
    let r := (addFlags d s cin).r
    (addFlags d s cin).h = (s.getLsbD (w - 5) && d.getLsbD (w - 5) || d.getLsbD (w - 5) && !r.getLsbD (w - 5) ||
      s.getLsbD (w - 5) && !r.getLsbD (w - 5)) := by
  have hcarry : (addFlags d s cin).h = BitVec.carry (w - 5 + 1) d s cin := by
    rw [show w - 5 + 1 = w - 4 by omega]
    rfl
  exact hcarry.trans (carry_succ_eq_table (by omega) d s cin)

theorem addFlags_c {w : Nat} (hw : 0 < w) (d s : BitVec w) (cin : Bool) :
    let r := (addFlags d s cin).r
    (addFlags d s cin).c = (s.msb && d.msb || d.msb && !r.msb || s.msb && !r.msb) := by
  have hcarry : (addFlags d s cin).c = BitVec.carry (w - 1 + 1) d s cin := by
    rw [Nat.sub_add_cancel hw, BitVec.carry_width]
    rfl
  simp only [BitVec.msb_eq_getLsbD_last]
  exact hcarry.trans (carry_succ_eq_table (by omega) d s cin)

theorem addFlags_v {w : Nat} (d s : BitVec w) (cin : Bool) :
    let r := (addFlags d s cin).r
    (addFlags d s cin).v = (s.msb && d.msb && !r.msb || !s.msb && !d.msb && r.msb) :=
  overflow_eq_table d.msb s.msb _

/-- The complement of a carry's formula over the complemented source is the borrow's formula. -/
theorem borrow_eq_table : ∀ d s r : Bool,
    (!(!s && d || d && !r || !s && !r)) = (s && !d || !d && r || s && r) := by decide

theorem subFlags_h {w : Nat} (hw : 4 < w) (d s : BitVec w) (b : Bool) :
    let r := (subFlags d s b).r
    (subFlags d s b).h = (s.getLsbD (w - 5) && !d.getLsbD (w - 5) || !d.getLsbD (w - 5) && r.getLsbD (w - 5) ||
      s.getLsbD (w - 5) && r.getLsbD (w - 5)) := by
  have hbit : (~~~s).getLsbD (w - 5) = !s.getLsbD (w - 5) := by
    rw [BitVec.getLsbD_not, decide_eq_true (by omega), Bool.true_and]
  rw [subFlags_eq_addFlags d s b (by omega)]
  dsimp only
  rw [addFlags_h hw, hbit, borrow_eq_table]

theorem subFlags_c {w : Nat} (hw : 0 < w) (d s : BitVec w) (b : Bool) :
    let r := (subFlags d s b).r
    (subFlags d s b).c = (s.msb && !d.msb || !d.msb && r.msb || s.msb && r.msb) := by
  rw [subFlags_eq_addFlags d s b hw]
  dsimp only
  rw [addFlags_c hw, msb_not_of_pos hw, borrow_eq_table]

theorem subFlags_v {w : Nat} (hw : 0 < w) (d s : BitVec w) (b : Bool) :
    let r := (subFlags d s b).r
    (subFlags d s b).v = (!s.msb && d.msb && !r.msb || s.msb && !d.msb && r.msb) := by
  rw [subFlags_eq_addFlags d s b hw]
  dsimp only
  rw [addFlags_v, msb_not_of_pos hw, Bool.not_not]

/-- Settles O19: H and C are carries, out of the bit below the boundary and out of the highest bit; a subtraction is the
addition of the complement, with the borrows for the carries. -/
theorem flagsOfTable27 : Obligations.FlagsOfTable27 := by
  intro w d s cin hw
  have hpos : 0 < w := by omega
  exact ⟨⟨toNat_addFlags_r hpos d s cin, addFlags_h hw d s cin, BitVec.msb_eq_getLsbD_last _, rfl,
      addFlags_v d s cin, addFlags_c hpos d s cin⟩,
    toNat_subFlags_r hpos d s cin, subFlags_h hw d s cin, BitVec.msb_eq_getLsbD_last _, rfl,
    subFlags_v hpos d s cin, subFlags_c hpos d s cin⟩

/-! ## The order after a comparison (R291) -/

theorem subFlags_false_r {w : Nat} (x y : BitVec w) : (subFlags x y false).r = x - y := by
  simp [subFlags]

theorem subFlags_c_eq_lt {w : Nat} (x y : BitVec w) : (subFlags x y false).c = decide (x.toNat < y.toNat) := rfl

theorem subFlags_z_eq {w : Nat} (x y : BitVec w) : (subFlags x y false).z = decide (x = y) := by
  have hz : (subFlags x y false).z = decide ((subFlags x y false).r = 0#w) := rfl
  rw [hz, subFlags_false_r, decide_eq_decide]
  exact sub_eq_zero

/-- N and V together are the signed order: where the signs differ they give it, and where they agree the borrow does. -/
theorem subFlags_n_xor_v {w : Nat} (hw : 0 < w) (x y : BitVec w) :
    ((subFlags x y false).n ^^ (subFlags x y false).v) = decide (x.toInt < y.toInt) := by
  have hborrow : BitVec.carry w x (~~~y) true = !(subFlags x y false).c := by
    rw [← Bool.not_eq_eq_eq_not, ← BitVec.ult_eq_not_carry]
    rfl
  have table : ∀ a b r : Bool, (r ^^ (!b && a && !r || b && !a && r)) =
      ((a == b) ^^ !(b && !a || !a && r || b && r)) := by decide
  have hslt : decide (x.toInt < y.toInt) = x.slt y := rfl
  have hn : (subFlags x y false).n = (subFlags x y false).r.msb := rfl
  rw [hslt, BitVec.slt_eq_not_carry, hborrow, hn, subFlags_v hw, subFlags_c hw]
  exact table _ _ _

/-- The last column of R291 says how Z, C and the exclusive or of N and V follow the operands. -/
theorem ordered_arith_subFlags {w : Nat} (hw : 0 < w) (x y : BitVec w) (c : Ccr) :
    ordered x y (c.arith (subFlags x y false)) := by
  have hz := subFlags_z_eq x y
  have hc := subFlags_c_eq_lt x y
  have hnv := subFlags_n_xor_v hw x y
  have heq : x = y ↔ x.toNat = y.toNat := BitVec.toNat_inj.symm
  have heqInt : x = y ↔ x.toInt = y.toInt := BitVec.toInt_inj.symm
  simp only [ordered, Cond.holds, Ccr.arith, hz, hc, hnv, ← decide_not, ← Bool.decide_or, decide_eq_decide]
  refine ⟨?_, ?_, Nat.not_lt, trivial, trivial, trivial, Int.not_lt, trivial, ?_, ?_⟩
  · rw [heq]; omega
  · rw [heq]; omega
  · rw [heqInt]; omega
  · rw [heqInt]; omega

end Sys2Proof.Machine
end

section
/-! SUPPORT. The arithmetic instructions by the shapes they are: register operations, with the multiplications among them,
and comparisons. -/

namespace Sys2Proof.Machine

/-! ## Addition, subtraction and comparison (R161 to R176, R188 to R190) -/

/-- Settles O20: each form is a register operation whose result and flags are those of AddFlags or SubFlags. -/
theorem addAndSubtract : Obligations.AddAndSubtract := by
  intro s rs8 rd8 rs16 rd16 ers erd i8 i16 i32
  simp only [List.forall_mem_cons]
  refine ⟨⟨?_, ?_, ?_, List.forall_mem_nil _⟩, ⟨?_, ?_, ?_, ?_, List.forall_mem_nil _⟩,
    ⟨?_, ?_, ?_, ?_, List.forall_mem_nil _⟩⟩
  · exact alu8_spec 2 s rd8 (addOp i8)
  · exact alu8_spec 2 s rd8 (addOp (s.reg8 rs8))
  · exact alu8_spec 2 s rd8 (subOp (s.reg8 rs8))
  · exact alu16_spec 4 s rd16 (addOp i16)
  · exact alu16_spec 2 s rd16 (addOp (s.reg16 rs16))
  · exact alu16_spec 4 s rd16 (subOp i16)
  · exact alu16_spec 2 s rd16 (subOp (s.reg16 rs16))
  · exact alu32_spec 6 s erd (addOp i32)
  · exact alu32_spec 2 s erd (addOp (s.reg32 ers))
  · exact alu32_spec 6 s erd (subOp i32)
  · exact alu32_spec 2 s erd (subOp (s.reg32 ers))

/-- Settles O21: each form is a byte operation with the old C going in, whose Z is the old one and the computed one. -/
theorem addAndSubtractWithCarry : Obligations.AddAndSubtractWithCarry := by
  intro s rs rd i8
  simp only [List.forall_mem_cons]
  exact ⟨alu8_spec 2 s rd (addxOp i8), alu8_spec 2 s rd (addxOp (s.reg8 rs)), alu8_spec 2 s rd (subxOp i8),
    alu8_spec 2 s rd (subxOp (s.reg8 rs)), List.forall_mem_nil _⟩

/-- An instruction that writes flags only writes no register and no memory. -/
theorem flagsOnly_spec (len : Nat) (c : Ccr) (s : State) :
    ∃ t, flagsOnly len c s = .next t ∧ keptRegs s t ∧ t.ccr = c ∧ keptButRegs len s t :=
  ⟨_, rfl, fun _ => rfl, rfl, rfl, ⟨rfl, fun _ => rfl⟩, rfl, rfl, rfl, rfl, rfl, rfl⟩

/-- CMP writes the flags of SUB. -/
theorem compare_spec {w : Nat} (len : Nat) (x y : BitVec w) (s : State) :
    ∃ t, flagsOnly len (subOp y x s.ccr).2 s = .next t ∧ keptRegs s t ∧ arithFlags (subFlags x y false) s t ∧
      keptButRegs len s t :=
  flagsOnly_spec len (s.ccr.arith (subFlags x y false)) s

/-- Settles O22: each form is the comparison of its operands. -/
theorem compare : Obligations.Compare := by
  intro s rs8 rd8 rs16 rd16 ers erd i8 i16 i32
  simp only [List.forall_mem_cons]
  refine ⟨⟨?_, ?_, List.forall_mem_nil _⟩, ⟨?_, ?_, List.forall_mem_nil _⟩, ⟨?_, ?_, List.forall_mem_nil _⟩⟩
  · exact compare_spec 2 (s.reg8 rd8) i8 s
  · exact compare_spec 2 (s.reg8 rd8) (s.reg8 rs8) s
  · exact compare_spec 4 (s.reg16 rd16) i16 s
  · exact compare_spec 2 (s.reg16 rd16) (s.reg16 rs16) s
  · exact compare_spec 6 (s.reg32 erd) i32 s
  · exact compare_spec 2 (s.reg32 erd) (s.reg32 ers) s

/-- The conditions of R291 after a comparison order its operands. -/
theorem ordered_of_compare {w : Nat} (hw : 0 < w) (len : Nat) (x y : BitVec w) (s : State) :
    ∃ t, flagsOnly len (subOp y x s.ccr).2 s = .next t ∧ ordered x y t.ccr := by
  obtain ⟨t, hnext, -, hflags, -⟩ := compare_spec len x y s
  exact ⟨t, hnext, hflags ▸ ordered_arith_subFlags hw x y s.ccr⟩

/-- Settles O37: each form is the comparison of its operands, whose flags order them. -/
theorem conditionsAfterCompare : Obligations.ConditionsAfterCompare := by
  intro s rs8 rd8 rs16 rd16 ers erd i8 i16 i32
  simp only [List.forall_mem_cons]
  refine ⟨⟨?_, ?_, List.forall_mem_nil _⟩, ⟨?_, ?_, List.forall_mem_nil _⟩, ⟨?_, ?_, List.forall_mem_nil _⟩⟩
  · exact ordered_of_compare (by decide) 2 (s.reg8 rd8) i8 s
  · exact ordered_of_compare (by decide) 2 (s.reg8 rd8) (s.reg8 rs8) s
  · exact ordered_of_compare (by decide) 4 (s.reg16 rd16) i16 s
  · exact ordered_of_compare (by decide) 2 (s.reg16 rd16) (s.reg16 rs16) s
  · exact ordered_of_compare (by decide) 6 (s.reg32 erd) i32 s
  · exact ordered_of_compare (by decide) 2 (s.reg32 erd) (s.reg32 ers) s

/-- Settles O23: each form is a register operation that adds or subtracts 1 or 2 and leaves H and C out of its flags. -/
theorem incrementAndDecrement : Obligations.IncrementAndDecrement := by
  intro s rd8 rd16 erd
  simp only [List.forall_mem_cons]
  refine ⟨⟨?_, ?_, List.forall_mem_nil _⟩, ⟨?_, ?_, ?_, ?_, List.forall_mem_nil _⟩,
    ⟨?_, ?_, ?_, ?_, List.forall_mem_nil _⟩⟩
  · exact alu8_spec 2 s rd8 (incFlags 1#8)
  · exact alu8_spec 2 s rd8 (decFlags 1#8)
  · exact alu16_spec 2 s rd16 (incFlags 1#16)
  · exact alu16_spec 2 s rd16 (incFlags 2#16)
  · exact alu16_spec 2 s rd16 (decFlags 1#16)
  · exact alu16_spec 2 s rd16 (decFlags 2#16)
  · exact alu32_spec 2 s erd (incFlags 1#32)
  · exact alu32_spec 2 s erd (incFlags 2#32)
  · exact alu32_spec 2 s erd (decFlags 1#32)
  · exact alu32_spec 2 s erd (decFlags 2#32)

/-- Settles O24: each form is a 32-bit register operation that gives the CCR back as it was. -/
theorem addressArithmetic : Obligations.AddressArithmetic := by
  intro s erd
  have hup (k : Long) := alu32_spec 2 s erd fun d c => (d + k, c)
  have hdown (k : Long) := alu32_spec 2 s erd fun d c => (d - k, c)
  simp only [List.forall_mem_cons]
  exact ⟨hup 1#32, hup 2#32, hup 4#32, hdown 1#32, hdown 2#32, hdown 4#32, List.forall_mem_nil _⟩

/-! ## Negation and extension (R191 to R197) -/

theorem subFlags_zero_r {w : Nat} (d : BitVec w) : (subFlags 0#w d false).r = -d := by
  rw [subFlags_false_r, BitVec.zero_sub]

theorem toInt_signExtend_low {w m : Nat} (h : w ≤ m) (d : BitVec m) :
    ((d.extractLsb' 0 w).signExtend m).toInt = (d.setWidth w).toInt := by
  rw [BitVec.toInt_signExtend_of_le h, BitVec.setWidth_eq_extractLsb' h]

theorem toNat_extractLow {w m : Nat} (d : BitVec m) : (d.extractLsb' 0 w).toNat = d.toNat % 2 ^ w := by
  rw [BitVec.extractLsb'_toNat, Nat.shiftRight_zero]

theorem toNat_setWidth_low {w m : Nat} (h : w ≤ m) (d : BitVec m) :
    ((d.extractLsb' 0 w).setWidth m).toNat = d.toNat % 2 ^ w := by
  rw [BitVec.toNat_setWidth_of_le h, toNat_extractLow]

/-- Settles O29: NEG is the subtraction from 0, the extensions keep the low half as a signed or an unsigned number. -/
theorem negateAndExtend : Obligations.NegateAndExtend := by
  intro s rd8 rd16 erd
  refine ⟨?_, ?_, ?_, ?_, ?_, ?_, ?_⟩
  · rw [← subFlags_zero_r]
    exact alu8_spec 2 s rd8 negOp
  · rw [← subFlags_zero_r]
    exact alu16_spec 2 s rd16 negOp
  · rw [← subFlags_zero_r]
    exact alu32_spec 2 s erd negOp
  · obtain ⟨t, hnext, hreg, hccr, hkept⟩ := alu16_spec 2 s rd16 extsWOp
    exact ⟨t, _, hnext, hreg, hccr, hkept, toInt_signExtend_low (by decide) _⟩
  · obtain ⟨t, hnext, hreg, hccr, hkept⟩ := alu32_spec 2 s erd extsLOp
    exact ⟨t, _, hnext, hreg, hccr, hkept, toInt_signExtend_low (by decide) _⟩
  · obtain ⟨t, hnext, hreg, hccr, hkept⟩ := alu16_spec 2 s rd16 extuWOp
    exact ⟨t, _, hnext, hreg, hccr, hkept, toNat_setWidth_low (by decide) _⟩
  · obtain ⟨t, hnext, hreg, hccr, hkept⟩ := alu32_spec 2 s erd extuLOp
    exact ⟨t, _, hnext, hreg, hccr, hkept, toNat_setWidth_low (by decide) _⟩

/-! ## Multiplication (R179 to R182) -/

/-- MULXU on a destination whose low half is the other factor. -/
def mulxuOp {m w : Nat} (b : BitVec w) (d : BitVec m) (c : Ccr) : BitVec m × Ccr :=
  (mulU m (d.extractLsb' 0 w) b, c)

/-- MULXS on a destination whose low half is the other factor. -/
def mulxsOp {m w : Nat} (b : BitVec w) (d : BitVec m) (c : Ccr) : BitVec m × Ccr :=
  let p := mulS m (d.extractLsb' 0 w) b
  (p, c.nz p)

theorem execMulxuB_eq (rs : Reg8) (rd : Reg16) (s : State) :
    execMulxuB rs rd s = alu16 2 rd (mulxuOp (s.reg8 rs)) s := rfl

theorem execMulxuW_eq (rs : Reg16) (erd : RegNum) (s : State) :
    execMulxuW rs erd s = alu32 2 erd (mulxuOp (s.reg16 rs)) s := rfl

theorem execMulxsB_eq (rs : Reg8) (rd : Reg16) (s : State) :
    execMulxsB rs rd s = alu16 4 rd (mulxsOp (s.reg8 rs)) s := rfl

theorem execMulxsW_eq (rs : Reg16) (erd : RegNum) (s : State) :
    execMulxsW rs erd s = alu32 4 erd (mulxsOp (s.reg16 rs)) s := rfl

/-- The double width holds every unsigned product. -/
theorem toNat_mulxuOp {w : Nat} (b : BitVec w) (d : BitVec (w * 2)) (c : Ccr) :
    (mulxuOp b d c).1.toNat = d.toNat % 2 ^ w * b.toNat := by
  rw [← toNat_extractLow, mulxuOp, mulU, BitVec.toNat_ofNat]
  exact Nat.mod_eq_of_lt BitVec.toNat_mul_toNat_lt

/-- The double width holds every signed product, that of the two lowest numbers among them. -/
theorem toInt_mulxsOp {w : Nat} (hw : 0 < w) (b : BitVec w) (d : BitVec (w * 2)) (c : Ccr) :
    (mulxsOp b d c).1.toInt = (d.setWidth w).toInt * b.toInt := by
  have hlow : -2 ^ (w * 2 - 2) ≤ (d.setWidth w).toInt * b.toInt := BitVec.le_toInt_mul_toInt
  have hhigh : (d.setWidth w).toInt * b.toInt ≤ 2 ^ (w * 2 - 2) := BitVec.toInt_mul_toInt_le
  have hwider : (2 : Int) ^ (w * 2 - 2) < 2 ^ (w * 2 - 1) := pow_lt_pow_right₀ (by decide) (by omega)
  rw [mulxsOp, ← BitVec.setWidth_eq_extractLsb' (by omega)]
  exact BitVec.toInt_ofInt_eq_self (by omega) (by omega) (by omega)

/-- Settles O26: each form is a register operation whose result is the product, exact in the double width. -/
theorem multiply : Obligations.Multiply := by
  intro s rs8 rs16 rd16 erd
  refine ⟨?_, ?_, ?_, ?_⟩
  · obtain ⟨t, hnext, hreg, hccr, hkept⟩ := alu16_spec 2 s rd16 (mulxuOp (s.reg8 rs8))
    exact ⟨t, _, (execMulxuB_eq rs8 rd16 s).trans hnext, hreg, hccr, hkept, toNat_mulxuOp _ _ _⟩
  · obtain ⟨t, hnext, hreg, hccr, hkept⟩ := alu32_spec 2 s erd (mulxuOp (s.reg16 rs16))
    exact ⟨t, _, (execMulxuW_eq rs16 erd s).trans hnext, hreg, hccr, hkept, toNat_mulxuOp _ _ _⟩
  · obtain ⟨t, hnext, hreg, hccr, hkept⟩ := alu16_spec 4 s rd16 (mulxsOp (s.reg8 rs8))
    exact ⟨t, _, (execMulxsB_eq rs8 rd16 s).trans hnext, hreg, hccr, hkept, toInt_mulxsOp (by decide) _ _ _⟩
  · obtain ⟨t, hnext, hreg, hccr, hkept⟩ := alu32_spec 4 s erd (mulxsOp (s.reg16 rs16))
    exact ⟨t, _, (execMulxsW_eq rs16 erd s).trans hnext, hreg, hccr, hkept, toInt_mulxsOp (by decide) _ _ _⟩

end Sys2Proof.Machine
end

section
/-! SUPPORT. Division and decimal adjustment: the operations whose destination is open where the spec gives no value. -/

namespace Sys2Proof.Machine

/-! ## Quotient and remainder (R183 to R187) -/

/-- The destination of DIVXU, where there is one. -/
def quotU {w : Nat} (n : BitVec (w + w)) (v : BitVec w) : Option (BitVec (w + w)) :=
  (divU n v).map fun p => p.2 ++ p.1

/-- The destination of DIVXS, where there is one. -/
def quotS {w : Nat} (n : BitVec (w + w)) (v : BitVec w) : Option (BitVec (w + w)) :=
  (divS n v).map fun p => p.2 ++ p.1

/-- Where the divisor is not zero and the quotient fits, there is a destination, the remainder above the quotient. -/
theorem toNat_of_quotU {w : Nat} {n : BitVec (w + w)} {v : BitVec w} (hv : v ≠ 0#w)
    (hq : n.toNat / v.toNat < 2 ^ w) {r : BitVec (w + w)} (hr : ∀ x ∈ quotU n v, r = x) :
    r.toNat = n.toNat % v.toNat * 2 ^ w + n.toNat / v.toNat := by
  have hmod : n.toNat % v.toNat < 2 ^ w := by
    refine (Nat.mod_lt _ (Nat.pos_of_ne_zero fun h0 => hv ?_)).trans v.isLt
    exact BitVec.eq_of_toNat_eq h0
  rw [quotU, divU, if_neg (by simpa [hv] using hq)] at hr
  rw [hr _ rfl, BitVec.toNat_append, BitVec.toNat_ofNat, BitVec.toNat_ofNat, Nat.mod_eq_of_lt hq, Nat.mod_eq_of_lt hmod,
    ← Nat.shiftLeft_add_eq_or_of_lt hq, Nat.shiftLeft_eq]

/-- The remainder is smaller than the divisor in size, so that it fits its half. -/
theorem tmod_bounds {w : Nat} (a : Int) {v : BitVec w} (hv : v ≠ 0#w) :
    -2 ^ (w - 1) ≤ a.tmod v.toInt ∧ a.tmod v.toInt < 2 ^ (w - 1) := by
  have hne : v.toInt ≠ 0 := fun h0 => hv (BitVec.toInt_inj.1 (h0.trans BitVec.toInt_zero.symm))
  have hsmall : (a.tmod v.toInt).natAbs < v.toInt.natAbs := by
    rw [Int.natAbs_tmod]
    exact Nat.mod_lt _ (Int.natAbs_pos.2 hne)
  have hlow := BitVec.le_toInt v
  have hhigh := BitVec.toInt_lt (x := v)
  omega

/-- Where the divisor is not zero and the quotient fits, there is a destination, whose halves are the quotient and the
remainder. -/
theorem toInt_of_quotS {w : Nat} (hw : 0 < w) {n : BitVec (w + w)} {v : BitVec w} (hv : v ≠ 0#w)
    (hlow : -2 ^ (w - 1) ≤ n.toInt.tdiv v.toInt) (hhigh : n.toInt.tdiv v.toInt < 2 ^ (w - 1))
    {r : BitVec (w + w)} (hr : ∀ x ∈ quotS n v, r = x) :
    (r.extractLsb' 0 w).toInt = n.toInt.tdiv v.toInt ∧ (r.extractLsb' w w).toInt = n.toInt.tmod v.toInt := by
  obtain ⟨hmlow, hmhigh⟩ := tmod_bounds n.toInt hv
  rw [quotS, divS, if_neg (by simpa [hv] using ⟨hlow, hhigh⟩)] at hr
  rw [hr _ rfl, BitVec.extractLsb'_append_eq_right, BitVec.extractLsb'_append_eq_left, mul_comm, ← Int.tmod_def]
  exact ⟨BitVec.toInt_ofInt_eq_self hw hlow hhigh, BitVec.toInt_ofInt_eq_self hw hmlow hmhigh⟩

/-! ## A destination that may be open (R187) -/

/-- A division's writes to a 16-bit register: a free value where the operation gives none. -/
def divide16 (len : Nat) (rd : Reg16) (c : Ccr) (o : Option Word) (s : State) : Result :=
  match o with
  | some x => .next (((s.setCcr c).setReg16 rd x).advance len)
  | none => .next ((((s.setCcr c).drew 1).setReg16 rd (Config.freeWord s.draws)).advance len)

/-- A division's writes to a 32-bit register: a free value where the operation gives none. -/
def divide32 (len : Nat) (erd : RegNum) (c : Ccr) (o : Option Long) (s : State) : Result :=
  match o with
  | some x => .next (((s.setCcr c).setReg32 erd x).advance len)
  | none => .next ((((s.setCcr c).drew 1).setReg32 erd (Config.freeLong s.draws)).advance len)

theorem execDivxuB_eq (rs : Reg8) (rd : Reg16) (s : State) :
    execDivxuB rs rd s = divide16 2 rd (s.ccr.divU (s.reg8 rs)) (quotU (w := 8) (s.reg16 rd) (s.reg8 rs)) s := by
  simp only [execDivxuB, quotU]
  cases divU (s.reg16 rd) (s.reg8 rs) <;> rfl

theorem execDivxuW_eq (rs : Reg16) (erd : RegNum) (s : State) :
    execDivxuW rs erd s = divide32 2 erd (s.ccr.divU (s.reg16 rs)) (quotU (w := 16) (s.reg32 erd) (s.reg16 rs)) s := by
  simp only [execDivxuW, quotU]
  cases divU (s.reg32 erd) (s.reg16 rs) <;> rfl

theorem execDivxsB_eq (rs : Reg8) (rd : Reg16) (s : State) :
    execDivxsB rs rd s =
      divide16 4 rd (s.ccr.divS (s.reg16 rd) (s.reg8 rs)) (quotS (w := 8) (s.reg16 rd) (s.reg8 rs)) s := by
  simp only [execDivxsB, quotS]
  cases divS (s.reg16 rd) (s.reg8 rs) <;> rfl

theorem execDivxsW_eq (rs : Reg16) (erd : RegNum) (s : State) :
    execDivxsW rs erd s =
      divide32 4 erd (s.ccr.divS (s.reg32 erd) (s.reg16 rs)) (quotS (w := 16) (s.reg32 erd) (s.reg16 rs)) s := by
  simp only [execDivxsW, quotS]
  cases divS (s.reg32 erd) (s.reg16 rs) <;> rfl

theorem divide16_spec (len : Nat) (rd : Reg16) (c : Ccr) (o : Option Word) (s : State) :
    ∃ t k r, divide16 len rd c o s = .next t ∧ wrote16 rd r s t ∧ t.ccr = c ∧ t.pc = s.nextPc len ∧ keptMemory s t ∧
      keptRest k s t ∧ ∀ x ∈ o, r = x := by
  cases o with
  | some x =>
    exact ⟨_, 0, x, rfl, wrote16_setReg16 s rd x, rfl, rfl, ⟨rfl, fun _ => rfl⟩, ⟨rfl, rfl, rfl, rfl, rfl, rfl⟩,
      fun _ hx => Option.some.inj hx⟩
  | none =>
    exact ⟨_, 1, _, rfl, wrote16_setReg16 s rd _, rfl, rfl, ⟨rfl, fun _ => rfl⟩, ⟨rfl, rfl, rfl, rfl, rfl, rfl⟩,
      fun _ hx => nomatch hx⟩

theorem divide32_spec (len : Nat) (erd : RegNum) (c : Ccr) (o : Option Long) (s : State) :
    ∃ t k r, divide32 len erd c o s = .next t ∧ wrote32 erd r s t ∧ t.ccr = c ∧ t.pc = s.nextPc len ∧ keptMemory s t ∧
      keptRest k s t ∧ ∀ x ∈ o, r = x := by
  cases o with
  | some x =>
    exact ⟨_, 0, x, rfl, wrote32_setReg32 s erd x, rfl, rfl, ⟨rfl, fun _ => rfl⟩, ⟨rfl, rfl, rfl, rfl, rfl, rfl⟩,
      fun _ hx => Option.some.inj hx⟩
  | none =>
    exact ⟨_, 1, _, rfl, wrote32_setReg32 s erd _, rfl, rfl, ⟨rfl, fun _ => rfl⟩, ⟨rfl, rfl, rfl, rfl, rfl, rfl⟩,
      fun _ hx => nomatch hx⟩

/-- Settles O27: each form writes the destination of the unsigned division, or an open one. -/
theorem divideUnsigned : Obligations.DivideUnsigned := by
  intro s rs8 rs16 rd16 erd
  constructor
  · obtain ⟨t, k, r, hnext, hreg, hccr, hpc, hmem, hrest, hr⟩ := divide16_spec 2 rd16 (s.ccr.divU (s.reg8 rs8))
      (quotU (w := 8) (s.reg16 rd16) (s.reg8 rs8)) s
    exact ⟨t, k, r, (execDivxuB_eq rs8 rd16 s).trans hnext, hreg, hccr, hpc, hmem, hrest,
      fun hv hq => toNat_of_quotU hv (Nat.lt_succ_of_le hq) hr⟩
  · obtain ⟨t, k, r, hnext, hreg, hccr, hpc, hmem, hrest, hr⟩ := divide32_spec 2 erd (s.ccr.divU (s.reg16 rs16))
      (quotU (w := 16) (s.reg32 erd) (s.reg16 rs16)) s
    exact ⟨t, k, r, (execDivxuW_eq rs16 erd s).trans hnext, hreg, hccr, hpc, hmem, hrest,
      fun hv hq => toNat_of_quotU hv (Nat.lt_succ_of_le hq) hr⟩

/-- Settles O28: each form writes the destination of the signed division, or an open one. -/
theorem divideSigned : Obligations.DivideSigned := by
  intro s rs8 rs16 rd16 erd
  constructor
  · obtain ⟨t, k, r, hnext, hreg, hccr, hpc, hmem, hrest, hr⟩ := divide16_spec 4 rd16
      (s.ccr.divS (s.reg16 rd16) (s.reg8 rs8)) (quotS (w := 8) (s.reg16 rd16) (s.reg8 rs8)) s
    exact ⟨t, k, r, (execDivxsB_eq rs8 rd16 s).trans hnext, hreg, hccr, hpc, hmem, hrest,
      fun hv hlow hhigh => toInt_of_quotS (by decide) hv hlow (Int.lt_add_one_of_le hhigh) hr⟩
  · obtain ⟨t, k, r, hnext, hreg, hccr, hpc, hmem, hrest, hr⟩ := divide32_spec 4 erd
      (s.ccr.divS (s.reg32 erd) (s.reg16 rs16)) (quotS (w := 16) (s.reg32 erd) (s.reg16 rs16)) s
    exact ⟨t, k, r, (execDivxsW_eq rs16 erd s).trans hnext, hreg, hccr, hpc, hmem, hrest,
      fun hv hlow hhigh => toInt_of_quotS (by decide) hv hlow (Int.lt_add_one_of_le hhigh) hr⟩

/-! ## Decimal adjustment (R177, R178) -/

/-- DAA and DAS on a row of their tables, the value added and C after, or on none. -/
def adjustDecimal (rd : Reg8) (row : Option (Byte × Bool)) (s : State) : Result :=
  let d := s.reg8 rd
  match row with
  | some (x, carry) =>
    .next ((((s.drew 2).setReg8 rd (d + x)).setCcr (s.ccr.decimal (d + x) carry s.draws)).advance 2)
  | none =>
    .next ((((s.drew 6).setReg8 rd (Config.freeByte s.draws)).setCcr (s.ccr.freeArith (s.draws + 1))).advance 2)

theorem execDaa_eq (rd : Reg8) (s : State) :
    execDaa rd s = adjustDecimal rd (daaRow s.ccr.c s.ccr.h (s.reg8 rd)) s := rfl

theorem execDas_eq (rd : Reg8) (s : State) :
    execDas rd s = adjustDecimal rd ((dasRow s.ccr.c s.ccr.h (s.reg8 rd)).map (·, s.ccr.c)) s := by
  simp only [execDas]
  cases dasRow s.ccr.c s.ccr.h (s.reg8 rd) <;> rfl

/-- A row of R177 or R178: C before, the range of the upper digit, H before, the range of the lower digit, the value added,
C after. -/
abbrev AdjustRow := Bool × Nat × Nat × Bool × Nat × Nat × Byte × Bool

/-- The condition of a row on C, H and the register. -/
def AdjustRow.applies (row : AdjustRow) (c h : Bool) (d : Byte) : Prop :=
  c = row.1 ∧ row.2.1 ≤ d.toNat / 16 ∧ d.toNat / 16 ≤ row.2.2.1 ∧ h = row.2.2.2.1 ∧
    row.2.2.2.2.1 ≤ d.toNat % 16 ∧ d.toNat % 16 ≤ row.2.2.2.2.2.1

/-- What a row gives: the value added and C after. -/
def AdjustRow.gives (row : AdjustRow) : Byte × Bool := row.2.2.2.2.2.2

/-- What the claim says of an adjustment by a table: where a row applies the result and N, Z, C are those it gives;
everything but Rd and the five flags is kept. -/
def adjustsBy (rows : List AdjustRow) (o : Result) (rd : Reg8) (s : State) : Prop :=
  ∃ (t : State) (k : Nat) (r : Byte) (n z v c h : Bool), o = .next t ∧ wrote8 rd r s t ∧
    t.ccr = { s.ccr with n := n, z := z, v := v, c := c, h := h } ∧ t.pc = s.nextPc 2 ∧ keptMemory s t ∧
    keptRest k s t ∧
    ∀ row ∈ rows, s.ccr.c = row.1 →
      row.2.1 ≤ (s.reg8 rd).toNat / 16 → (s.reg8 rd).toNat / 16 ≤ row.2.2.1 →
      s.ccr.h = row.2.2.2.1 →
      row.2.2.2.2.1 ≤ (s.reg8 rd).toNat % 16 → (s.reg8 rd).toNat % 16 ≤ row.2.2.2.2.2.1 →
      r = s.reg8 rd + row.gives.1 ∧ n = r.msb ∧ z = decide (r = 0#8) ∧ c = row.gives.2

theorem adjustsBy_adjustDecimal {rows : List AdjustRow} {o : Option (Byte × Bool)} {rd : Reg8} {s : State}
    (h : ∀ row ∈ rows, row.applies s.ccr.c s.ccr.h (s.reg8 rd) → o = some row.gives) :
    adjustsBy rows (adjustDecimal rd o s) rd s := by
  cases o with
  | some p =>
    refine ⟨_, 2, _, _, _, _, _, _, rfl, wrote8_setReg8 s rd _, rfl, rfl, ⟨rfl, fun _ => rfl⟩,
      ⟨rfl, rfl, rfl, rfl, rfl, rfl⟩, fun row hmem hc hu hu' hh hl hl' => ?_⟩
    obtain rfl := Option.some.inj (h row hmem ⟨hc, hu, hu', hh, hl, hl'⟩)
    exact ⟨rfl, rfl, rfl, rfl⟩
  | none =>
    exact ⟨_, 6, _, _, _, _, _, _, rfl, wrote8_setReg8 s rd _, rfl, rfl, ⟨rfl, fun _ => rfl⟩,
      ⟨rfl, rfl, rfl, rfl, rfl, rfl⟩, fun row hmem hc hu hu' hh hl hl' => nomatch h row hmem ⟨hc, hu, hu', hh, hl, hl'⟩⟩

/-- The nine rows of DAA (R177). -/
def daaTable : List AdjustRow :=
  [(false, 0, 9, false, 0, 9, 0x00#8, false), (false, 0, 8, false, 10, 15, 0x06#8, false),
    (false, 0, 9, true, 0, 3, 0x06#8, false), (false, 10, 15, false, 0, 9, 0x60#8, true),
    (false, 9, 15, false, 10, 15, 0x66#8, true), (false, 10, 15, true, 0, 3, 0x66#8, true),
    (true, 0, 2, false, 0, 9, 0x60#8, true), (true, 0, 2, false, 10, 15, 0x66#8, true),
    (true, 0, 3, true, 0, 3, 0x66#8, true)]

/-- The four rows of DAS (R178). -/
def dasTable : List AdjustRow :=
  [(false, 0, 9, false, 0, 9, 0x00#8, false), (false, 0, 8, true, 6, 15, 0xFA#8, false),
    (true, 7, 15, false, 0, 9, 0xA0#8, true), (true, 6, 15, true, 6, 15, 0x9A#8, true)]

theorem toNat_upperDigit (d : Byte) : (d.extractLsb' 4 4).toNat = d.toNat / 16 := by
  have hlt := d.isLt
  rw [BitVec.extractLsb'_toNat, Nat.shiftRight_eq_div_pow]
  omega

theorem toNat_lowerDigit (d : Byte) : (d.extractLsb' 0 4).toNat = d.toNat % 16 := toNat_extractLow d

/-- A row's ranges pick out one branch of the model's table. -/
theorem daaRow_of_applies {c h : Bool} {d : Byte} :
    ∀ row ∈ daaTable, row.applies c h d → daaRow c h d = some row.gives := by
  simp only [daaTable, List.forall_mem_cons, AdjustRow.applies, AdjustRow.gives, daaRow, toNat_upperDigit,
    toNat_lowerDigit]
  generalize d.toNat / 16 = u
  generalize d.toNat % 16 = l
  refine ⟨?_, ?_, ?_, ?_, ?_, ?_, ?_, ?_, ?_, List.forall_mem_nil _⟩
  all_goals
    rintro ⟨rfl, hu, hu', rfl, hl, hl'⟩
    grind

theorem dasRow_of_applies {c h : Bool} {d : Byte} :
    ∀ row ∈ dasTable, row.applies c h d → (dasRow c h d).map (·, c) = some row.gives := by
  simp only [dasTable, List.forall_mem_cons, AdjustRow.applies, AdjustRow.gives, dasRow, toNat_upperDigit,
    toNat_lowerDigit]
  generalize d.toNat / 16 = u
  generalize d.toNat % 16 = l
  refine ⟨?_, ?_, ?_, ?_, List.forall_mem_nil _⟩
  all_goals
    rintro ⟨rfl, hu, hu', rfl, hl, hl'⟩
    grind

/-- Settles O25: where a row of the claim applies the model's table has it, and the instruction adds what it gives. -/
theorem decimalAdjust : Obligations.DecimalAdjust := by
  intro s rd
  have hdaa : adjustsBy daaTable (execDaa rd s) rd s := execDaa_eq rd s ▸ adjustsBy_adjustDecimal daaRow_of_applies
  have hdas : adjustsBy dasTable (execDas rd s) rd s := execDas_eq rd s ▸ adjustsBy_adjustDecimal dasRow_of_applies
  exact List.forall_mem_cons.2 ⟨hdaa, List.forall_mem_singleton.2 hdas⟩

end Sys2Proof.Machine
end

section
/-! SUPPORT. The logic instructions by the shape they are: register operations at the three sizes. -/

namespace Sys2Proof.Machine

/-- Settles O30: each form is a register operation that gives the bitwise result and its N and Z, with V cleared. -/
theorem logicOperations : Obligations.LogicOperations := by
  intro s rs8 rd8 rs16 rd16 ers erd i8 i16 i32
  have hbyte := alu8_spec 2 s rd8
  have hword (len : Nat) := alu16_spec len s rd16
  have hlong (len : Nat) := alu32_spec len s erd
  simp only [List.forall_mem_cons]
  refine ⟨⟨?_, ?_, ?_, ?_, ?_, ?_, ?_, List.forall_mem_nil _⟩, ⟨?_, ?_, ?_, ?_, ?_, ?_, ?_, List.forall_mem_nil _⟩,
    ⟨?_, ?_, ?_, ?_, ?_, ?_, ?_, List.forall_mem_nil _⟩⟩
  · exact hbyte (andOp i8)
  · exact hbyte (andOp (s.reg8 rs8))
  · exact hbyte (orOp i8)
  · exact hbyte (orOp (s.reg8 rs8))
  · exact hbyte (xorOp i8)
  · exact hbyte (xorOp (s.reg8 rs8))
  · exact hbyte notOp
  · exact hword 4 (andOp i16)
  · exact hword 2 (andOp (s.reg16 rs16))
  · exact hword 4 (orOp i16)
  · exact hword 2 (orOp (s.reg16 rs16))
  · exact hword 4 (xorOp i16)
  · exact hword 2 (xorOp (s.reg16 rs16))
  · exact hword 2 notOp
  · exact hlong 6 (andOp i32)
  · exact hlong 4 (andOp (s.reg32 ers))
  · exact hlong 6 (orOp i32)
  · exact hlong 4 (orOp (s.reg32 ers))
  · exact hlong 6 (xorOp i32)
  · exact hlong 4 (xorOp (s.reg32 ers))
  · exact hlong 2 notOp

end Sys2Proof.Machine
end

section
/-! SUPPORT. The shifts and rotations by one bit: their results as numbers and as the bits put together, at any width; the
instructions are register operations with those results. -/

namespace Sys2Proof.Machine

/-! ## The register operations with the flags of a shift (R240) -/

section ShiftedRegister
variable (s : State) {v carry : Bool}

theorem alu8_shifted (rd : Reg8) {f : Byte → Ccr → Byte × Ccr} {r : Byte}
    (h : f (s.reg8 rd) s.ccr = (r, s.ccr.shifted r v carry)) :
    ∃ t, alu8 2 rd f s = .next t ∧ wrote8 rd r s t ∧ t.ccr = s.ccr.shifted r v carry ∧ keptButRegs 2 s t := by
  simpa only [h] using alu8_spec 2 s rd f

theorem alu16_shifted (rd : Reg16) {f : Word → Ccr → Word × Ccr} {r : Word}
    (h : f (s.reg16 rd) s.ccr = (r, s.ccr.shifted r v carry)) :
    ∃ t, alu16 2 rd f s = .next t ∧ wrote16 rd r s t ∧ t.ccr = s.ccr.shifted r v carry ∧ keptButRegs 2 s t := by
  simpa only [h] using alu16_spec 2 s rd f

theorem alu32_shifted (erd : RegNum) {f : Long → Ccr → Long × Ccr} {r : Long}
    (h : f (s.reg32 erd) s.ccr = (r, s.ccr.shifted r v carry)) :
    ∃ t, alu32 2 erd f s = .next t ∧ wrote32 erd r s t ∧ t.ccr = s.ccr.shifted r v carry ∧ keptButRegs 2 s t := by
  simpa only [h] using alu32_spec 2 s erd f

end ShiftedRegister

/-! ## Shifts as numbers (R241 to R244) -/

section Shifts
variable {w : Nat} (d : BitVec w) (c : Ccr)

theorem shiftLeft_one_eq_ofNat : d <<< 1 = BitVec.ofNat w (2 * d.toNat) :=
  BitVec.eq_of_toNat_eq (by rw [BitVec.toNat_shiftLeft, BitVec.toNat_ofNat, Nat.shiftLeft_eq, pow_one, mul_comm])

theorem ushiftRight_one_eq_ofNat : d >>> 1 = BitVec.ofNat w (d.toNat / 2) := by
  have hfits : d.toNat / 2 < 2 ^ w := (Nat.div_le_self _ _).trans_lt d.isLt
  exact BitVec.eq_of_toNat_eq (by
    rw [BitVec.toNat_ushiftRight, Nat.shiftRight_one, BitVec.toNat_ofNat, Nat.mod_eq_of_lt hfits])

theorem sshiftRight_one_eq_ofInt : d.sshiftRight 1 = BitVec.ofInt w (d.toInt / 2) := by
  rw [BitVec.sshiftRight_eq, Int.shiftRight_eq_div_pow, pow_one]
  rfl

theorem shalOp_eq : shalOp d c = (BitVec.ofNat w (2 * d.toNat),
    c.shifted (BitVec.ofNat w (2 * d.toNat)) (xor d.msb (belowMsb d)) d.msb) := by
  rw [← shiftLeft_one_eq_ofNat, shalOp]

theorem sharOp_eq : sharOp d c = (BitVec.ofInt w (d.toInt / 2),
    c.shifted (BitVec.ofInt w (d.toInt / 2)) false (d.getLsbD 0)) := by
  rw [← sshiftRight_one_eq_ofInt, sharOp]

theorem shllOp_eq : shllOp d c = (BitVec.ofNat w (2 * d.toNat),
    c.shifted (BitVec.ofNat w (2 * d.toNat)) false d.msb) := by
  rw [← shiftLeft_one_eq_ofNat, shllOp]

/-- The cleared N is the result's MSB. -/
theorem shlrOp_eq : shlrOp d c = (BitVec.ofNat w (d.toNat / 2),
    c.shifted (BitVec.ofNat w (d.toNat / 2)) false (d.getLsbD 0)) := by
  have hmsb : (d >>> 1).msb = false := by simp [BitVec.msb_ushiftRight]
  rw [← ushiftRight_one_eq_ofNat, shlrOp, Ccr.shifted, hmsb]

end Shifts

/-- Settles O31: each form is a register operation whose result is the number named. -/
theorem shifts : Obligations.Shifts := by
  intro s rd8 rd16 erd d8 d16 d32
  simp only [List.forall_mem_cons]
  refine ⟨⟨?_, ?_, ?_, ?_, List.forall_mem_nil _⟩, ⟨?_, ?_, ?_, ?_, List.forall_mem_nil _⟩,
    ⟨?_, ?_, ?_, ?_, List.forall_mem_nil _⟩⟩
  · exact alu8_shifted s rd8 (shalOp_eq d8 s.ccr)
  · exact alu8_shifted s rd8 (sharOp_eq d8 s.ccr)
  · exact alu8_shifted s rd8 (shllOp_eq d8 s.ccr)
  · exact alu8_shifted s rd8 (shlrOp_eq d8 s.ccr)
  · exact alu16_shifted s rd16 (shalOp_eq d16 s.ccr)
  · exact alu16_shifted s rd16 (sharOp_eq d16 s.ccr)
  · exact alu16_shifted s rd16 (shllOp_eq d16 s.ccr)
  · exact alu16_shifted s rd16 (shlrOp_eq d16 s.ccr)
  · exact alu32_shifted s erd (shalOp_eq d32 s.ccr)
  · exact alu32_shifted s erd (sharOp_eq d32 s.ccr)
  · exact alu32_shifted s erd (shllOp_eq d32 s.ccr)
  · exact alu32_shifted s erd (shlrOp_eq d32 s.ccr)

/-! ## Rotations as the bits put together (R245 to R248) -/

section Rotations
variable {n : Nat} (b : Bool) (c : Ccr)

theorem extractLsb'_one_eq_ofBool {w : Nat} (d : BitVec w) (k : Nat) :
    d.extractLsb' k 1 = BitVec.ofBool (d.getLsbD k) := by
  refine BitVec.eq_of_getLsbD_eq fun i hi => ?_
  obtain rfl : i = 0 := by omega
  simp

/-- A bit below the bits moved up by one place. -/
theorem shiftLeft_one_or_lowBit (d : BitVec (n + 1)) :
    d <<< 1 ||| lowBit (n + 1) b = d.extractLsb' 0 n ++ BitVec.ofBool b := by
  refine BitVec.eq_of_getLsbD_eq fun i hi => ?_
  simp only [lowBit, BitVec.getLsbD_or, BitVec.getLsbD_shiftLeft, BitVec.getLsbD_setWidth, BitVec.getLsbD_append,
    BitVec.getLsbD_extractLsb', BitVec.getLsbD_ofBool]
  cases i with
  | zero => simp
  | succ i => simp

/-- A bit above the bits moved down by one place; the width is written as the concatenation has it. -/
theorem ushiftRight_one_or_highBit (d : BitVec (1 + n)) :
    d >>> 1 ||| lowBit (1 + n) b <<< (1 + n - 1) = BitVec.ofBool b ++ d.extractLsb' 1 n := by
  refine BitVec.eq_of_getLsbD_eq fun i hi => ?_
  simp only [lowBit, BitVec.getLsbD_or, BitVec.getLsbD_shiftLeft, BitVec.getLsbD_ushiftRight, BitVec.getLsbD_setWidth,
    BitVec.getLsbD_append, BitVec.getLsbD_extractLsb', BitVec.getLsbD_ofBool]
  rcases Nat.lt_or_ge i n with hlt | hge
  · simp [hlt]
  · obtain rfl : i = n := by omega
    simp

theorem rotlOp_eq (d : BitVec (n + 1)) : rotlOp d c = (d.extractLsb' 0 n ++ d.extractLsb' n 1,
    c.shifted (d.extractLsb' 0 n ++ d.extractLsb' n 1) false d.msb) := by
  have hmsb : d.extractLsb' n 1 = BitVec.ofBool d.msb := extractLsb'_one_eq_ofBool d n
  simp only [rotlOp, shiftLeft_one_or_lowBit, hmsb]

theorem rotrOp_eq (d : BitVec (1 + n)) : rotrOp d c = (d.extractLsb' 0 1 ++ d.extractLsb' 1 n,
    c.shifted (d.extractLsb' 0 1 ++ d.extractLsb' 1 n) false (d.getLsbD 0)) := by
  simp only [rotrOp, ushiftRight_one_or_highBit, extractLsb'_one_eq_ofBool]

theorem rotxlOp_eq (d : BitVec (n + 1)) : rotxlOp d c = (d.extractLsb' 0 n ++ BitVec.ofBool c.c,
    c.shifted (d.extractLsb' 0 n ++ BitVec.ofBool c.c) false d.msb) := by
  simp only [rotxlOp, shiftLeft_one_or_lowBit]

theorem rotxrOp_eq (d : BitVec (1 + n)) : rotxrOp d c = (BitVec.ofBool c.c ++ d.extractLsb' 1 n,
    c.shifted (BitVec.ofBool c.c ++ d.extractLsb' 1 n) false (d.getLsbD 0)) := by
  simp only [rotxrOp, ushiftRight_one_or_highBit]

end Rotations

/-- Settles O32: each form is a register operation whose result is the concatenation named. -/
theorem rotations : Obligations.Rotations := by
  intro s rd8 rd16 erd d8 d16 d32 x
  simp only [List.forall_mem_cons]
  refine ⟨⟨?_, ?_, ?_, ?_, List.forall_mem_nil _⟩, ⟨?_, ?_, ?_, ?_, List.forall_mem_nil _⟩,
    ⟨?_, ?_, ?_, ?_, List.forall_mem_nil _⟩⟩
  · exact alu8_shifted s rd8 (rotlOp_eq (n := 7) s.ccr d8)
  · exact alu8_shifted s rd8 (rotrOp_eq (n := 7) s.ccr d8)
  · exact alu8_shifted s rd8 (rotxlOp_eq (n := 7) s.ccr d8)
  · exact alu8_shifted s rd8 (rotxrOp_eq (n := 7) s.ccr d8)
  · exact alu16_shifted s rd16 (rotlOp_eq (n := 15) s.ccr d16)
  · exact alu16_shifted s rd16 (rotrOp_eq (n := 15) s.ccr d16)
  · exact alu16_shifted s rd16 (rotxlOp_eq (n := 15) s.ccr d16)
  · exact alu16_shifted s rd16 (rotxrOp_eq (n := 15) s.ccr d16)
  · exact alu32_shifted s erd (rotlOp_eq (n := 31) s.ccr d32)
  · exact alu32_shifted s erd (rotrOp_eq (n := 31) s.ccr d32)
  · exact alu32_shifted s erd (rotxlOp_eq (n := 31) s.ccr d32)
  · exact alu32_shifted s erd (rotxrOp_eq (n := 31) s.ccr d32)

end Sys2Proof.Machine
end

section
/-! SUPPORT. The bit manipulation on registers, and its read group on registers and memory. -/

namespace Sys2Proof.Machine

/-! ## The write group on a register (R263 to R265, R275, R276) -/

/-- What the claim says of one of the eight forms, with the bit number and the new bit. -/
def writesBitOf (o : Result) (rd : Reg8) (n : Nat) (x : Bool) (s : State) : Prop :=
  ∃ t r, o = .next t ∧ wrote8 rd r s t ∧ t.ccr = s.ccr ∧ keptButRegs 2 s t ∧
    ∀ k, k < 8 → r.getLsbD k = if k = n then x else (s.reg8 rd).getLsbD k

section Forms
variable (s : State) (rd : Reg8)

theorem writesBitOf_bitWriteReg {f : Byte → Byte} {n : Nat} {x : Bool} (hf : writesBit f n x (s.reg8 rd)) :
    writesBitOf (bitWriteReg rd f s) rd n x s :=
  ⟨_, f (s.reg8 rd), rfl, wrote8_setReg8 s rd _, rfl, ⟨rfl, ⟨rfl, fun _ => rfl⟩, rfl, rfl, rfl, rfl, rfl, rfl⟩, hf⟩

variable {n : BitVec 3} {k : Nat} (hk : n.toNat = k)
include hk

/-- BSET, BCLR, BST and BIST: the new bit does not depend on the byte. -/
theorem writesBitOf_withBit (x : Bool) : writesBitOf (bitWriteReg rd (withBit · n x) s) rd k x s :=
  hk ▸ writesBitOf_bitWriteReg s rd (writesBit_withBit n x _)

/-- BNOT: the new bit is the complement of the old one. -/
theorem writesBitOf_bnotOp : writesBitOf (bitWriteReg rd (bnotOp n) s) rd k (!(s.reg8 rd).getLsbD k) s :=
  hk ▸ writesBitOf_bitWriteReg s rd (writesBit_withBit n _ (s.reg8 rd))

end Forms

/-- Settles O33: each of the eight forms writes the register with a function that writes one bit; its number is an
immediate or the low three bits of a register. -/
theorem bitWriteOnRegister : Obligations.BitWriteOnRegister := by
  intro s imm rn rd b
  have hm : (bitNumber (s.reg8 rn)).toNat = (s.reg8 rn).toNat % 8 := toNat_bitNumber (s.reg8 rn)
  simp only [List.forall_mem_cons]
  refine ⟨?_, ?_, ?_, ?_, ?_, ?_, ?_, ?_, List.forall_mem_nil _⟩
  · exact writesBitOf_withBit s rd (n := imm) rfl true
  · exact writesBitOf_withBit s rd hm true
  · exact writesBitOf_withBit s rd (n := imm) rfl false
  · exact writesBitOf_withBit s rd hm false
  · exact writesBitOf_bnotOp s rd (n := imm) rfl
  · exact writesBitOf_bnotOp s rd hm
  · exact writesBitOf_withBit s rd (n := imm) rfl s.ccr.c
  · exact writesBitOf_withBit s rd (n := imm) rfl (!s.ccr.c)

/-! ## The read group (R266 to R274) -/

section Reads
variable (f : Byte → Ccr → Ccr) (s : State)

theorem bitReadReg_spec (rd : Reg8) : ∃ t, bitReadReg rd f s = .next t ∧ t.ccr = f (s.reg8 rd) s.ccr ∧
    keptRegs s t ∧ keptButRegs 2 s t := by
  obtain ⟨t, hnext, hregs, hccr, hkept⟩ := flagsOnly_spec 2 (f (s.reg8 rd) s.ccr) s
  exact ⟨t, hnext, hccr, hregs, hkept⟩

/-- The one access is the read of the byte, which writes no register. -/
theorem bitReadMem_spec (ea : Addr) : ∃ t, bitReadMem ea f s = .next t ∧ t.ccr = f (s.readByte ea) s.ccr ∧
    keptRegs s t ∧ keptButRegs 4 (s.sawByte ea) t := by
  obtain ⟨t, hnext, hregs, hccr, hkept⟩ := flagsOnly_spec 4 (f (s.readByte ea) s.ccr) (s.sawByte ea)
  exact ⟨t, hnext, hccr, hregs, hkept⟩

end Reads

/-- Settles O35: each form reads its byte, from a register or with one access, and writes the CCR that its operation on
the numbered bit gives. -/
theorem bitTestAndBitLogic : Obligations.BitTestAndBitLogic := by
  intro s imm rn rd erd aa m w x y s1 s2
  have hm : (bitNumber (s.reg8 rn)).toNat = m := toNat_bitNumber (s.reg8 rn)
  have onReg (n : BitVec 3) (op : BitVec 3 → Byte → Ccr → Ccr) := bitReadReg_spec (op n) s rd
  have onInd (n : BitVec 3) (op : BitVec 3 → Byte → Ccr → Ccr) := bitReadMem_spec (op n) s (s.eaInd erd)
  have onAbs (n : BitVec 3) (op : BitVec 3 → Byte → Ccr → Ccr) := bitReadMem_spec (op n) s (eaAbs8 aa)
  simp only [List.forall_mem_cons, List.getElem?_cons_zero, List.getElem?_cons_succ, Option.some.injEq, forall_eq']
  refine ⟨⟨?_, ?_, ?_, ?_, ?_, ?_, List.forall_mem_nil _⟩, ⟨?_, ?_, ?_, List.forall_mem_nil _⟩⟩
  · exact onReg imm btstOp
  · exact onInd imm btstOp
  · exact onAbs imm btstOp
  · exact hm ▸ onReg (bitNumber (s.reg8 rn)) btstOp
  · exact hm ▸ onInd (bitNumber (s.reg8 rn)) btstOp
  · exact hm ▸ onAbs (bitNumber (s.reg8 rn)) btstOp
  · exact ⟨onReg imm bandOp, onReg imm biandOp, onReg imm borOp, onReg imm biorOp, onReg imm bxorOp,
      onReg imm bixorOp, onReg imm bldOp, onReg imm bildOp, List.forall_mem_nil _⟩
  · exact ⟨onInd imm bandOp, onInd imm biandOp, onInd imm borOp, onInd imm biorOp, onInd imm bxorOp,
      onInd imm bixorOp, onInd imm bldOp, onInd imm bildOp, List.forall_mem_nil _⟩
  · exact ⟨onAbs imm bandOp, onAbs imm biandOp, onAbs imm borOp, onAbs imm biorOp, onAbs imm bxorOp,
      onAbs imm bixorOp, onAbs imm bldOp, onAbs imm bildOp, List.forall_mem_nil _⟩

end Sys2Proof.Machine
end

section
/-! SUPPORT. Branches and jumps, the return from a call, and the call that comes back. -/

namespace Sys2Proof.Machine

/-! ## Going on elsewhere (R27) -/

/-- An assignment to the pc changes nothing else; `m` is `s` after the reads made. -/
theorem setPc_spec {s m : State} (hm : m = { s with trace := m.trace }) (a : Addr) :
    ∃ t, (.next (m.setPc a) : Result) = .next t ∧ t.pc = s.evenAddr a ∧ keptRegs s t ∧ t.ccr = s.ccr ∧
      keptMemory m t ∧ keptRest 0 s t := by
  refine ⟨_, rfl, ?_⟩
  rw [hm]
  exact ⟨rfl, fun _ => rfl, rfl, ⟨rfl, fun _ => rfl⟩, rfl, rfl, rfl, rfl, rfl, rfl⟩

/-- Settles O38: each form assigns to the pc; JMP @@aa:8 does so after the table entry's read. -/
theorem jump : Obligations.Jump := by
  intro s ern a24 a8
  simp only [List.forall_mem_cons, ← State.readEntry_eq_entryAt]
  exact ⟨setPc_spec (m := s) rfl (s.eaInd ern), setPc_spec (m := s) rfl a24,
    setPc_spec (s.sawEntry_eq (a8.setWidth 24)) (s.memInd a8), List.forall_mem_nil _⟩

/-! ## Bcc (R290, R291) -/

/-- Either way a branch assigns to the pc: `pc <- next` is the assignment of `pc + len`. -/
theorem branch_eq (k : Cond) (d : Disp) (s : State) : branch k d s =
    .next (s.setPc (if k.holds s.ccr = true then s.pcRel d else s.pc + BitVec.ofNat 24 (Disp.len d))) := by
  rw [branch]
  split
  · rfl
  · rfl

theorem branch_spec (k : Cond) (d : Disp) (s : State) :
    ∃ t, branch k d s = .next t ∧ keptRegs s t ∧ t.ccr = s.ccr ∧ keptMemory s t ∧ keptRest 0 s t ∧
      t.pc = if k.holds s.ccr = true then s.evenAddr (s.pcRel d) else s.nextPc (Disp.len d) := by
  rw [branch_eq]
  obtain ⟨t, hnext, hpc, hregs, hccr, hmem, hrest⟩ := setPc_spec (s := s) (m := s) rfl _
  exact ⟨t, hnext, hregs, hccr, hmem, hrest, hpc.trans (apply_ite s.evenAddr _ _ _)⟩

/-- Settles O36: each form is the branch on its condition, whose formula is that of R291; the displacements differ in
length and width only. -/
theorem conditionalBranch : Obligations.ConditionalBranch := by
  intro s x8 x16 d hd
  have hd : d.2.1 = Disp.len d.1 ∧ BitVec.ofInt 24 d.2.2 = Disp.ext d.1 := by
    simp only [List.mem_cons, List.not_mem_nil, or_false] at hd
    rcases hd with rfl | rfl
    · exact ⟨rfl, rfl⟩
    · exact ⟨rfl, rfl⟩
  obtain ⟨hlen, hext⟩ := hd
  have onCond (k : Cond) := branch_spec k d.1 s
  simp only [List.forall_mem_cons, hlen, hext, Bool.decide_eq_true, Bool.decide_eq_false]
  exact ⟨onCond .ra, onCond .rn, onCond .hi, onCond .ls, onCond .cc, onCond .cs, onCond .ne, onCond .eq, onCond .vc,
    onCond .vs, onCond .pl, onCond .mi, onCond .ge, onCond .lt, onCond .gt, onCond .le, List.forall_mem_nil _⟩

/-! ## RTS (R300) -/

/-- The size of a call's return frame. -/
def State.frameSize (s : State) : Long :=
  match s.cfg.mode with
  | .normal => 2#32
  | .advanced => 4#32

theorem returnFromCall_of_even {s : State} (hsp : s.spOdd = false) :
    returnFromCall s = .next (((s.sawEntry (s.sp.setWidth 24)).setReg32 .r7 (s.sp + s.frameSize)).setPc
      (entryAt (s.sp.setWidth 24) s)) := by
  rw [returnFromCall, guardSp_of_even hsp, ← State.readEntry_eq_entryAt]
  unfold State.sawEntry State.frameSize State.readEntry
  cases s.cfg.mode with
  | normal => rfl
  | advanced => rfl

/-- Settles O40: the frame is read as the branch table's entry is, and nothing is stored. -/
theorem returnFromSubroutine : Obligations.ReturnFromSubroutine := by
  intro s hsp
  refine ⟨_, returnFromCall_of_even hsp, ?_, State.evenAddr_congr (by simp) _, by simp, ⟨by simp [State.sp], ?_⟩,
    by simp [keptRest]⟩
  · exact wrote32_congr (by simp) (wrote32_setReg32 s .r7 (s.sp + s.frameSize))
  · exact State.peek_congr (by simp) (by simp) (by simp [State.sp])

/-! ## A call and its return (R295 to R300) -/

theorem State.spOdd_eq_decide (s : State) : s.spOdd = decide ((s.reg32 .r7).toNat % 2 = 1) :=
  Nat.testBit_zero _

theorem State.frameSize_even (s : State) : s.frameSize.toNat % 2 = 0 := by
  unfold State.frameSize
  cases s.cfg.mode with
  | normal => rfl
  | advanced => rfl

/-- A frame is a whole number of words, so that SP stays even. -/
theorem spOdd_of_pushed {s t : State} (hpushed : wrote32 .r7 (s.reg32 .r7 - s.frameSize) s t) : t.spOdd = s.spOdd := by
  have hsize := s.frameSize_even
  rw [State.spOdd_eq_decide, State.spOdd_eq_decide, hpushed.1, decide_eq_decide]
  bv_omega

/-- RTS with a frame on the stack takes it off and goes on where the frame says. -/
theorem rts_of_pushed {s t : State} (hsp : s.spOdd = false) (hcfg : t.cfg = s.cfg)
    (hpushed : wrote32 .r7 (s.reg32 .r7 - s.frameSize) s t) :
    ∃ u, exec .rts t = .next u ∧ u.pc = s.evenAddr (entryAt ((s.reg32 .r7 - s.frameSize).setWidth 24) t) ∧
      keptRegs s u ∧ u.ccr = t.ccr := by
  have hsize : t.frameSize = s.frameSize := by rw [State.frameSize, hcfg, State.frameSize]
  obtain ⟨u, hnext, hpopped, hpc, hccr, -, -⟩ := returnFromSubroutine t ((spOdd_of_pushed hpushed).trans hsp)
  change wrote32 .r7 (t.reg32 .r7 + t.frameSize) t u at hpopped
  obtain ⟨hdown, hother⟩ := hpushed
  obtain ⟨hup, hother'⟩ := hpopped
  refine ⟨u, hnext, ?_, fun r => ?_, hccr⟩
  · rw [hpc, State.evenAddr_congr hcfg, hdown]
  · by_cases hr : r = .r7
    · rw [hr, hup, hdown, hsize, BitVec.sub_add_cancel]
    · rw [hother' r hr, hother r hr]

/-- In normal mode `next` has no more than 16 bits (R25, log 25). -/
theorem setWidth_nextPc_of_normal {s : State} (hmode : s.cfg.mode = .normal) (len : Nat) :
    ((s.nextPc len).setWidth 16).setWidth 24 = s.nextPc len := by
  have hspan : s.addrSpan = 2 ^ 16 := by rw [State.addrSpan, hmode]
  have hnext := s.toNat_nextPc len
  rw [hspan] at hnext
  bv_omega

theorem entryAt_of_stored16 {u t : State} (hmode : t.cfg.mode = .normal) (hcfg : t.cfg = u.cfg)
    (hram : ∀ b, u.writable b = true) {a : Addr} {v : Word} (h : stored16 a v u t) : entryAt a t = v.setWidth 24 := by
  rw [entryAt, hmode]
  exact congrArg (BitVec.setWidth 24) (readWord_of_stored16 hcfg hram h)

theorem entryAt_of_holds32 {u t : State} (hmode : t.cfg.mode = .advanced) (hcfg : t.cfg = u.cfg)
    (hram : ∀ b, u.writable b = true) {a : Addr} {v : Long} (h : holds32 a v u t) : entryAt a t = v.setWidth 24 := by
  rw [entryAt, hmode]
  exact congrArg (BitVec.setWidth 24) (readLong_of_holds32 hcfg hram h)

/-- The low-order word of a frame at ER7 - 4 stands at ER7 - 2. -/
theorem setWidth_sub_four_add_two (x : Long) : (x - 4#32).setWidth 24 + 2#24 = (x - 2#32).setWidth 24 := by
  bv_omega

/-- A call that O39 describes leaves a frame which, over RAM everywhere, holds the address after it. -/
theorem pushed_of_callsFrom {s u : State} (hu : u.cfg = s.cfg) (hram : ∀ b, s.writable b = true) {o : Result}
    {target : Addr} {len : Nat} (hcall : callsFrom o target len s u)
    (hclear : s.evenAddr ((s.reg32 .r7 - 2#32).setWidth 24) ≠ s.nextPc len ∧
      s.evenAddr ((s.reg32 .r7 - 4#32).setWidth 24) ≠ s.nextPc len) :
    ∃ t, o = .next t ∧ t.cfg = s.cfg ∧ t.ccr = s.ccr ∧ wrote32 .r7 (s.reg32 .r7 - s.frameSize) s t ∧
      entryAt ((s.reg32 .r7 - s.frameSize).setWidth 24) t = s.nextPc len := by
  have hramu : ∀ b, u.writable b = true := fun b => (State.writable_congr hu b).trans (hram b)
  obtain ⟨hclear2, hclear4⟩ := hclear
  obtain ⟨hnormal, hadvanced⟩ := hcall
  cases hmode : s.cfg.mode with
  | normal =>
    obtain ⟨t, hnext, hpushed, hstored, -, hccr, -, -, hcfg, -⟩ := hnormal hmode hclear2
    have hsize : s.frameSize = 2#32 := by rw [State.frameSize, hmode]
    have hentry := entryAt_of_stored16 (hcfg ▸ hmode) (hcfg.trans hu.symm) hramu hstored
    rw [setWidth_nextPc_of_normal hmode] at hentry
    rw [hsize]
    exact ⟨t, hnext, hcfg, hccr, hpushed, hentry⟩
  | advanced =>
    obtain ⟨t, k, x, hnext, hpushed, ⟨-, hholds⟩, -, hccr, -, -, hcfg, -⟩ :=
      hadvanced hmode hclear4 (by rwa [setWidth_sub_four_add_two])
    have hsize : s.frameSize = 4#32 := by rw [State.frameSize, hmode]
    have hentry := entryAt_of_holds32 (hcfg ▸ hmode) (hcfg.trans hu.symm) hramu hholds
    rw [BitVec.setWidth_append_eq_right] at hentry
    rw [hsize]
    exact ⟨t, hnext, hcfg, hccr, hpushed, hentry⟩

/-- RTS reads that address from the frame, and the pc takes it as it is: `next` is even and masked. -/
theorem comesBack_of_callsFrom {s u : State} (hu : u.cfg = s.cfg) (hsp : s.spOdd = false)
    (hram : ∀ b, s.writable b = true) {o : Result} {target : Addr} {len : Nat} (hcall : callsFrom o target len s u)
    (hclear : s.evenAddr ((s.reg32 .r7 - 2#32).setWidth 24) ≠ s.nextPc len ∧
      s.evenAddr ((s.reg32 .r7 - 4#32).setWidth 24) ≠ s.nextPc len) :
    ∃ t v, o = .next t ∧ exec .rts t = .next v ∧ v.pc = s.nextPc len ∧ keptRegs s v ∧ v.ccr = s.ccr := by
  obtain ⟨t, hnext, hcfg, hccr, hpushed, hentry⟩ := pushed_of_callsFrom hu hram hcall hclear
  obtain ⟨v, hrts, hpc, hregs, hccr'⟩ := rts_of_pushed hsp hcfg hpushed
  have heven : s.evenAddr (s.nextPc len) = s.nextPc len := State.evenAddr_evenAddr s _
  exact ⟨t, v, hnext, hrts, by rw [hpc, hentry, heven], hregs, hccr'.trans hccr⟩

/-- Settles O41: each form is a call as O39 says it, and such a call comes back. -/
theorem callThenReturn : Obligations.CallThenReturn := by
  intro s ern a24 a8 x8 x16 h hsp hram
  have hcalls := callSubroutine s ern a24 a8 x8 x16 h hsp
  simp only [List.forall_mem_cons, List.not_mem_nil, false_implies, implies_true, and_true] at hcalls ⊢
  obtain ⟨hbsr8, hbsr16, hind, habs, hmem⟩ := hcalls
  exact ⟨comesBack_of_callsFrom rfl hsp hram hbsr8, comesBack_of_callsFrom rfl hsp hram hbsr16,
    comesBack_of_callsFrom rfl hsp hram hind, comesBack_of_callsFrom rfl hsp hram habs,
    comesBack_of_callsFrom (s.sawEntry_cfg _) hsp hram hmem⟩

end Sys2Proof.Machine
end

section
/-! SUPPORT. System control on the CCR: what LDC, ANDC, ORC, XORC write and STC stores; NOP and SLEEP. The settling
theorems whose plain names the model's operations already have (`loadCcr`, `storeCcr`) stand under `SystemControl`. -/

namespace Sys2Proof.Machine

/-! ## The pc at `next` and nothing else (R313, R322) -/

/-- The move to `next` changes no register and no flag; `m` is `s` but for what is no register and no flag. -/
theorem advance_spec (len : Nat) {s m : State} (her : m.er = s.er) (hccr : m.ccr = s.ccr) :
    ∃ t, (.next (m.advance len) : Result) = .next t ∧ keptRegs s t ∧ t.ccr = s.ccr ∧ keptButRegs len m t :=
  ⟨_, rfl, State.reg32_congr her, hccr, rfl, ⟨rfl, fun _ => rfl⟩, rfl, rfl, rfl, rfl, rfl, rfl⟩

/-- Where SLEEP leads: software standby, with the peripheral modules reset, or sleep (R313, R380). -/
def State.atRest (s : State) : State :=
  if s.cfg.ssby = true then { s.noted .outside with pstate := .softwareStandby } else { s with pstate := .sleep }

@[simp] theorem State.atRest_er (s : State) : s.atRest.er = s.er := by
  unfold State.atRest
  split
  · rfl
  · rfl

@[simp] theorem State.atRest_ccr (s : State) : s.atRest.ccr = s.ccr := by
  unfold State.atRest
  split
  · rfl
  · rfl

theorem execSleep_eq (s : State) : execSleep s = .next (s.atRest.advance 2) := by
  unfold execSleep State.atRest
  split
  · rfl
  · rfl

/-- Settles O44: NOP moves the pc on, SLEEP does so at rest. -/
theorem nopAndSleep : Obligations.NopAndSleep := by
  refine fun s => ⟨advance_spec 2 rfl rfl, ?_⟩
  change ∃ t, execSleep s = .next t ∧ _
  rw [execSleep_eq]
  exact advance_spec 2 s.atRest_er s.atRest_ccr

/-! ## Writing the CCR (R314 to R316, R319 to R321, R323) -/

section CombinedCcr
variable (c : Ccr) (b : Byte)

theorem Ccr.zipWith_and_ofByte : c.zipWith and (Ccr.ofByte b) = Ccr.ofByte (c.toByte &&& b) := by
  conv_lhs => rw [← Ccr.ofByte_toByte c]
  simp only [Ccr.zipWith, Ccr.ofByte, BitVec.getLsbD_and]

theorem Ccr.zipWith_or_ofByte : c.zipWith or (Ccr.ofByte b) = Ccr.ofByte (c.toByte ||| b) := by
  conv_lhs => rw [← Ccr.ofByte_toByte c]
  simp only [Ccr.zipWith, Ccr.ofByte, BitVec.getLsbD_or]

theorem Ccr.zipWith_xor_ofByte : c.zipWith xor (Ccr.ofByte b) = Ccr.ofByte (c.toByte ^^^ b) := by
  conv_lhs => rw [← Ccr.ofByte_toByte c]
  simp only [Ccr.zipWith, Ccr.ofByte, BitVec.getLsbD_xor]

end CombinedCcr

/-- What the claim says of a CCR write of `len` bytes: `s` is the state of before, `u` the one after the reads made. -/
def loadsCcr (o : Result) (b : Byte) (len : Nat) (s u : State) : Prop :=
  ∃ t, o = .next t ∧ t.ccr = Ccr.ofByte b ∧ t.irqInhibit = true ∧ keptRegs s t ∧
    keptButRegs len { u with irqInhibit := true } t

theorem loadsCcr_writeCcr (len : Nat) {b : Byte} {c : Ccr} {s u : State} (hc : c = Ccr.ofByte b) (her : u.er = s.er) :
    loadsCcr (writeCcr len c u) b len s u :=
  ⟨_, rfl, hc, rfl, State.reg32_congr her, rfl, ⟨rfl, fun _ => rfl⟩, rfl, rfl, rfl, rfl, rfl, rfl⟩

/-- The byte at the even address is the high one of the word (R54). -/
theorem State.readEven_eq (s : State) (a : Addr) : s.readEven a = (s.readWord a).extractLsb' 8 8 :=
  BitVec.extractLsb'_append_eq_left.symm

theorem loadsCcr_loadCcr (len : Nat) (ea : Addr) (s : State) :
    loadsCcr (loadCcr len ea s) ((s.readWord ea).extractLsb' 8 8) len s (s.sawWord ea) :=
  loadsCcr_writeCcr len (congrArg Ccr.ofByte (s.readEven_eq ea)) rfl

/-- Settles O42: each form writes the CCR, LDC.W after the read of its word; @ERs+ does so from the state with the
address register stepped, whose memory is that of before. -/
theorem SystemControl.loadCcr : Obligations.LoadCcr := by
  intro s rs ers i8 d16 d24 a16 a24 byteAt
  refine ⟨?_, ?_⟩
  · simp only [List.forall_mem_cons]
    exact ⟨loadsCcr_writeCcr 2 rfl rfl, loadsCcr_writeCcr 2 rfl rfl, loadsCcr_loadCcr 4 _ s, loadsCcr_loadCcr 6 _ s,
      loadsCcr_loadCcr 10 _ s, loadsCcr_loadCcr 6 _ s, loadsCcr_loadCcr 8 _ s,
      loadsCcr_writeCcr 2 (Ccr.zipWith_and_ofByte _ _) rfl, loadsCcr_writeCcr 2 (Ccr.zipWith_or_ofByte _ _) rfl,
      loadsCcr_writeCcr 2 (Ccr.zipWith_xor_ofByte _ _) rfl, List.forall_mem_nil _⟩
  · obtain ⟨t, hnext, hccr, hinh, hregs, hkept⟩ := loadsCcr_loadCcr 4 (s.eaInd ers) (s.stepUp ers 2#32)
    have hbyte : t.ccr.toByte = byteAt (s.eaInd ers) := by
      rw [hccr, Ccr.toByte_ofByte]
      rfl
    have hstepped : wrote32 ers (s.reg32 ers + 2#32) s t :=
      wrote32_congr (Regs.ext_get hregs) (wrote32_setReg32 s ers _)
    exact ⟨t, hnext, hbyte, hstepped, hinh, hkept⟩

/-! ## Storing the CCR (R317, R318) -/

/-- The byte whose bits are the CCR's. -/
theorem eq_toByte_of_bits {b : Byte} {c : Ccr} (h7 : b.getLsbD 7 = c.i) (h6 : b.getLsbD 6 = c.ui)
    (h5 : b.getLsbD 5 = c.h) (h4 : b.getLsbD 4 = c.u) (h3 : b.getLsbD 3 = c.n) (h2 : b.getLsbD 2 = c.z)
    (h1 : b.getLsbD 1 = c.v) (h0 : b.getLsbD 0 = c.c) : b = c.toByte := by
  have hc : Ccr.ofByte b = c := by rw [Ccr.ofByte, h7, h6, h5, h4, h3, h2, h1, h0]
  rw [← hc, Ccr.toByte_ofByte]

theorem storeCcr_spec {len : Nat} {ea : Addr} {s : State} (h : s.mem.wf) (hea : s.evenAddr ea ≠ s.nextPc len) :
    ∃ (t : State) (k : Nat) (x : Byte), storeCcr len ea s = .next t ∧ stored16 ea (s.ccr.toByte ++ x) s t ∧
      t.ccr = s.ccr ∧ t.pc = s.nextPc len ∧ keptRegs s t ∧ keptRest k s t :=
  ⟨_, 1, _, storeCcr_eq_next.2 ⟨hitsNext_eq_false.2 hea, rfl⟩, stored16_writeEven h ea _, by simp,
    State.nextPc_congr (by simp) (by simp) len, State.reg32_congr (by simp), by simp [keptRest]⟩

/-- Settles O43: the byte is the CCR's; STC.B writes a register, each form of STC.W is a store of it, @-ERd from the
state with the address register stepped down, whose memory is that of before. -/
theorem SystemControl.storeCcr : Obligations.StoreCcr := by
  intro s rd erd d16 d24 a16 a24 b h h7 h6 h5 h4 h3 h2 h1 h0 u
  obtain rfl := eq_toByte_of_bits h7 h6 h5 h4 h3 h2 h1 h0
  refine ⟨?_, ?_, fun hea => ?_⟩
  · exact ⟨_, rfl, wrote8_setReg8 s rd _, rfl, rfl, ⟨rfl, fun _ => rfl⟩, rfl, rfl, rfl, rfl, rfl, rfl⟩
  · simp only [List.forall_mem_cons]
    exact ⟨storeCcr_spec h, storeCcr_spec h, storeCcr_spec h, storeCcr_spec h, storeCcr_spec h,
      List.forall_mem_nil _⟩
  · exact storeCcr_spec (s := u) h hea

end Sys2Proof.Machine
end

section
/-! SUPPORT. TRAPA, RTE, and the request that ends a standby: entry to exception handling and the return from it.
The theorem that settles O46 stands under `SystemControl`, as the model has a `returnFromException`. -/

namespace Sys2Proof.Machine

/-! ## TRAPA (R312) -/

theorem trap_of_clear {x : BitVec 2} {s : State} (hsp : s.spOdd = false)
    (hhigh : s.evenAddr ((s.sp - 4#32).setWidth 24) ≠ s.nextPc 2)
    (hlow : s.evenAddr ((s.sp - 4#32).setWidth 24 + 2#24) ≠ s.nextPc 2) :
    trap x s = .next (s.entered (8 + x.toNat) (s.nextPc 2)) := by
  rw [trap, guardSp_of_even hsp]
  dsimp only
  rw [guardNext_of_clear (by simp [hhigh, hlow])]
  exact takeException_eq_next.2 ⟨hsp, rfl⟩

/-- Settles O45: past its two guards a TRAPA is the entry with its own vector number. -/
theorem trapEntry : Obligations.TrapEntry := by
  intro s h hsp f hhigh hlow
  have enters (x : BitVec 2) : ∃ t, trap x s = .next t ∧ enteredException (8 + x.toNat) (s.nextPc 2) s t :=
    ⟨_, trap_of_clear hsp hhigh hlow, enteredException_entered h _ _⟩
  simp only [List.forall_mem_cons]
  exact ⟨enters 0#2, enters 1#2, enters 2#2, enters 3#2, List.forall_mem_nil _⟩

/-! ## RTE (R311) -/

/-- The PC of a frame that is the long word `w`. -/
def State.pcOfFrame (s : State) (w : Long) : Addr :=
  match s.cfg.mode with
  | .normal => (w.extractLsb' 0 16).setWidth 24
  | .advanced => w.extractLsb' 0 24

theorem State.pcOfFrame_congr {s t : State} (h : t.cfg = s.cfg) (w : Long) : t.pcOfFrame w = s.pcOfFrame w := by
  rw [State.pcOfFrame, h, State.pcOfFrame]

theorem State.framePc_eq (s : State) : s.framePc = s.pcOfFrame (s.readLong (s.sp.setWidth 24)) := by
  unfold State.framePc State.pcOfFrame
  cases hmode : s.cfg.mode with
  | normal =>
    dsimp only
    rw [State.readLong, BitVec.extractLsb'_append_eq_right]
  | advanced =>
    have hentry := s.readEntry_eq_entryAt (s.sp.setWidth 24)
    simp only [State.readEntry, entryAt, hmode] at hentry
    dsimp only
    rw [hentry, BitVec.setWidth_eq_extractLsb' (by decide)]

/-- The CCR of a frame is the highest byte of its long word. -/
theorem State.readEven_eq_readLong (s : State) (a : Addr) : s.readEven a = (s.readLong a).extractLsb' 24 8 := by
  have hword : s.readWord a = (s.readLong a).extractLsb' 16 16 := BitVec.extractLsb'_append_eq_left.symm
  rw [State.readEven_eq, hword, extractLsb'_extractLsb' _ (by decide)]

/-- Settles O46: RTE reads the frame's long word, whose parts are the CCR and the PC. -/
theorem SystemControl.returnFromException : Obligations.ReturnFromException := by
  intro s hsp w
  refine ⟨_, returnFromException_eq_next.2 ⟨hsp, rfl⟩, wrote32_setReg32 s .r7 _, ?_, ?_, ⟨rfl, fun _ => rfl⟩,
    rfl, rfl, rfl, rfl, rfl, rfl⟩
  · exact (Ccr.toByte_ofByte _).trans (s.readEven_eq_readLong _)
  · exact congrArg s.evenAddr s.framePc_eq

/-! ## A trap and its return (R311, R312, R367) -/

/-- The read of the vector changes no steady byte. -/
theorem State.peek_sawEntry {s : State} (p : Addr) {b : Addr} (h : s.steady b = true) :
    (s.sawEntry p).peek b = s.peek b :=
  State.peek_of_steady (by simp) h (by simp)

theorem Ccr.toByte_injective {c d : Ccr} (h : c.toByte = d.toByte) : c = d := by
  rw [← Ccr.ofByte_toByte c, h, Ccr.ofByte_toByte]

/-- Over RAM everywhere the frame of an exception entry reads as its long word after the vector is read too. -/
theorem readLong_of_frame {s m t : State} {a p : Addr} {v : Long} (hm : m.cfg = s.cfg) (ht : t.cfg = s.cfg)
    (hram : ∀ b, s.writable b = true) (hstored : stored32LowFirst a v s m) (hkept : keptMemory (m.sawEntry p) t) :
    t.readLong a = v := by
  obtain ⟨-, hholds⟩ := hstored
  obtain ⟨-, hpeek⟩ := hkept
  refine readLong_of_holds32 ht hram fun b hb => ?_
  rw [hpeek, State.peek_sawEntry p (by rw [State.steady_congr hm, hb]), hholds b hb]

/-- The frame an exception entry leaves holds the CCR of before and the saved PC, which is one of the mode's address
space. -/
theorem frame_of_enteredException {v len : Nat} {s t : State} (hram : ∀ b, s.writable b = true)
    (h : enteredException v (s.nextPc len) s t) :
    let w := t.readLong ((s.reg32 .r7 - 4#32).setWidth 24)
    w.extractLsb' 24 8 = s.ccr.toByte ∧ s.pcOfFrame w = s.nextPc len := by
  obtain ⟨-, ⟨m, hm, hframe, hkept, -⟩, -, -, -, hcfg, -⟩ := h
  unfold State.pcOfFrame
  cases hmode : s.cfg.mode with
  | normal =>
    rw [hmode] at hframe
    obtain ⟨x, hstored⟩ := hframe
    rw [readLong_of_frame hm hcfg hram hstored hkept]
    refine ⟨?_, ?_⟩
    · rw [← extractLsb'_extractLsb' (i := 16) (j := 8) (l := 16) _ (by decide), BitVec.extractLsb'_append_eq_left,
        BitVec.extractLsb'_append_eq_left]
    · dsimp only
      rw [BitVec.extractLsb'_append_eq_right, ← BitVec.setWidth_eq_extractLsb' (by decide)]
      exact setWidth_nextPc_of_normal hmode len
  | advanced =>
    rw [hmode] at hframe
    rw [readLong_of_frame hm hcfg hram hframe hkept]
    exact ⟨BitVec.extractLsb'_append_eq_left, BitVec.extractLsb'_append_eq_right⟩

/-- RTE after an exception entry takes the frame off and restores what the entry saved. -/
theorem rte_of_enteredException {v len : Nat} {s t : State} (hsp : s.spOdd = false) (hram : ∀ b, s.writable b = true)
    (h : enteredException v (s.nextPc len) s t) :
    ∃ u, exec .rte t = .next u ∧ u.pc = s.nextPc len ∧ keptRegs s u ∧ u.ccr = s.ccr := by
  obtain ⟨hccrFrame, hpcFrame⟩ := frame_of_enteredException hram h
  obtain ⟨⟨hdown, hother⟩, -, -, -, -, hcfg, -⟩ := h
  have heven : t.spOdd = false := by
    rw [State.spOdd_eq_decide] at hsp ⊢
    rw [hdown]
    simp only [decide_eq_false_iff_not] at hsp ⊢
    bv_omega
  obtain ⟨u, hnext, ⟨hup, hother'⟩, hccr, hpc, -, -⟩ := SystemControl.returnFromException t heven
  change u.pc = t.evenAddr (t.pcOfFrame _) at hpc
  refine ⟨u, hnext, ?_, fun r => ?_, Ccr.toByte_injective ?_⟩
  · rw [hpc, hdown, State.evenAddr_congr hcfg, State.pcOfFrame_congr hcfg, hpcFrame]
    exact State.evenAddr_evenAddr s _
  · by_cases hr : r = .r7
    · rw [hr, hup, hdown, BitVec.sub_add_cancel]
    · rw [hother' r hr, hother r hr]
  · rw [hccr, hdown, hccrFrame]

/-- Settles O47: each TRAPA is an entry as O45 says it, and RTE as O46 says it undoes such an entry. -/
theorem trapThenReturn : Obligations.TrapThenReturn := by
  intro s h hsp hram f hhigh hlow
  have htraps := trapEntry s h hsp hhigh hlow
  have comesBack {o : Result} {v : Nat} (ho : ∃ t, o = .next t ∧ enteredException v (s.nextPc 2) s t) :
      ∃ t u, o = .next t ∧ exec .rte t = .next u ∧ u.pc = s.nextPc 2 ∧ keptRegs s u ∧ u.ccr = s.ccr := by
    obtain ⟨t, hnext, hentered⟩ := ho
    obtain ⟨u, hback⟩ := rte_of_enteredException hsp hram hentered
    exact ⟨t, u, hnext, hback⟩
  simp only [List.forall_mem_cons] at htraps ⊢
  obtain ⟨h0, h1, h2, h3, -⟩ := htraps
  exact ⟨comesBack h0, comesBack h1, comesBack h2, comesBack h3, List.forall_mem_nil _⟩

/-! ## The request that ends sleep or software standby (R379, R380, R383) -/

theorem step_of_takes_of_even {p : List IrqRequest} {cut : Option Nat} {rest : List Event} {s : State}
    {r : IrqRequest} (hsp : s.spOdd = false) (hin : s.inputs = .requests p cut :: rest) (h : s.takes p r) :
    step s = .next ({ s with inputs := rest }.entered (s.vectorOf r) s.pc) := by
  have htakes := (State.takes_congr (s := s) (t := { s with inputs := rest }) rfl rfl rfl rfl).2 h
  rw [step_of_event hin]
  exact (boundary_of_takes htakes).trans (takeException_eq_next.2 ⟨hsp, rfl⟩)

/-- Of the requests presented, those that can end the standby: in sleep all, in software standby the ones that wake. -/
def State.awaits (s : State) (p seen : List IrqRequest) : Prop :=
  s.pstate = .sleep ∧ seen = p ∨ s.pstate = .softwareStandby ∧ seen = p.filter fun r => r.wakes

theorem takes_of_awaits {s : State} {p seen : List IrqRequest} {r : IrqRequest} (h : s.awaits p seen)
    (hr : s.select seen = some r) : s.takes p r := by
  obtain ⟨hs, rfl⟩ | ⟨hs, rfl⟩ := h
  · exact .inr (.inl ⟨hs, hr⟩)
  · exact .inr (.inr ⟨hs, hr⟩)

theorem boundary_of_awaits {s : State} {p seen : List IrqRequest} {cut : Option Nat} (h : s.awaits p seen)
    (hnone : s.select seen = none) : boundary p cut s = .next s := by
  unfold boundary
  obtain ⟨hs, rfl⟩ | ⟨hs, rfl⟩ := h
  · simp [hs, hnone]
  · simp only [hs]
    rw [hnone]

/-- Settles O53: at rest a boundary takes the selected request, or does nothing. -/
theorem wakeFromSleep : Obligations.WakeFromSleep := by
  intro s p seen cut rest h hin hseen
  refine ⟨fun hnone => ?_, fun r hr hsp => ?_⟩
  · have hnone' : ({ s with inputs := rest } : State).select seen = none :=
      (State.select_congr (s := s) (t := { s with inputs := rest }) rfl rfl seen).trans hnone
    rw [step_of_event hin]
    exact boundary_of_awaits (s := { s with inputs := rest }) hseen hnone'
  · exact ⟨_, step_of_takes_of_even hsp hin (takes_of_awaits hseen hr),
      enteredException_entered (s := { s with inputs := rest }) h _ _⟩

end Sys2Proof.Machine
end

section
/-! SUPPORT. Which of the pending requests a boundary takes, and the entry it makes. -/

namespace Sys2Proof.Machine

/-! ## The mask test (R363) -/

theorem State.accepts_of_nmi {s : State} {q : IrqRequest} (h : q.nmi = true) : s.accepts q = true := by
  simp [State.accepts, h]

theorem State.accepts_of_unmasked {s : State} {q : IrqRequest} (h : s.ccr.i = false) : s.accepts q = true := by
  simp [State.accepts, h]

theorem State.accepts_of_masked {s : State} {q : IrqRequest} (hi : s.ccr.i = true) (hui : s.cfg.uiIsMask = false)
    (hq : q.nmi = false) : s.accepts q = false := by
  simp [State.accepts, hi, hui, hq]

/-! ## The order of priority (R364) -/

/-- A request does not outrank another when it stands no higher in the order that puts NMI first, then the platform's
tags. -/
theorem State.outranks_eq_false_iff {s : State} {q r : IrqRequest} :
    s.outranks q r = false ↔ (q.nmi = true → r.nmi = true) ∧
      (q.nmi = r.nmi → s.cfg.irqPriority.idxOf r.tag ≤ s.cfg.irqPriority.idxOf q.tag) := by
  have himp : ∀ a b : Bool, a ≠ b → ((a = true → b = true) ↔ a = false) := by decide
  unfold State.outranks
  split
  · next heq => simp [heq]
  · next hne => simp [hne, himp _ _ hne]

theorem State.outranks_asymm {s : State} {q r : IrqRequest} (h : s.outranks q r = true) : s.outranks r q = false := by
  rw [State.outranks_eq_false_iff]
  unfold State.outranks at h
  split at h
  · next heq => exact ⟨heq.trans, fun _ => (of_decide_eq_true h).le⟩
  · next hne => exact ⟨fun _ => h, fun heq => absurd heq.symm hne⟩

theorem State.not_outranks_trans {s : State} {x q r : IrqRequest} (hxq : s.outranks x q = false)
    (hqr : s.outranks q r = false) : s.outranks x r = false := by
  rw [State.outranks_eq_false_iff] at hxq hqr ⊢
  obtain ⟨hnmi, htag⟩ := hxq
  obtain ⟨hnmi', htag'⟩ := hqr
  refine ⟨hnmi' ∘ hnmi, fun hxr => ?_⟩
  have hsame : q.nmi = r.nmi := Bool.eq_iff_iff.2 ⟨hnmi', fun hr => hnmi (hxr.trans hr)⟩
  exact (htag' hsame).trans (htag (hxr.trans hsame.symm))

/-! ## The choice (R353) -/

theorem State.accepts_eq_false_of_select {s : State} :
    ∀ {p : List IrqRequest}, s.select p = none → ∀ q ∈ p, s.accepts q = false
  | [], _ => List.forall_mem_nil _
  | r :: rs, h => by
    cases hrs : s.select rs with
    | none =>
      have hr : s.accepts r = false := by simpa [State.select, hrs] using h
      exact List.forall_mem_cons.2 ⟨hr, State.accepts_eq_false_of_select hrs⟩
    | some q =>
      simp only [State.select, hrs] at h
      split at h <;> cases h

/-- How the first request fares against the choice among the others. -/
theorem State.select_cons_eq_some {s : State} {r x : IrqRequest} {rs : List IrqRequest}
    (h : s.select (r :: rs) = some x) :
    (x = r ∧ s.accepts r = true ∧ ∀ q, s.select rs = some q → s.outranks q r = false) ∨
      (s.select rs = some x ∧ (s.accepts r = true → s.outranks x r = true)) := by
  cases hrs : s.select rs with
  | none =>
    obtain ⟨hr, rfl⟩ : s.accepts r = true ∧ r = x := by simpa [State.select, hrs] using h
    exact .inl ⟨rfl, hr, by simp⟩
  | some q =>
    simp only [State.select, hrs] at h
    split at h
    · next hwins =>
      obtain ⟨hr, hnot⟩ : s.accepts r = true ∧ s.outranks q r = false := by simpa using hwins
      cases h
      exact .inl ⟨rfl, hr, by simpa using hnot⟩
    · next hloses =>
      cases h
      exact .inr ⟨rfl, by simpa using hloses⟩

/-- The request selected is pending, accepted, and outranked by none accepted: an earlier one gives way only to one that
outranks it, and takes the place only of one that does not. -/
theorem State.select_eq_some {s : State} {x : IrqRequest} :
    ∀ {p : List IrqRequest}, s.select p = some x →
      x ∈ p ∧ s.accepts x = true ∧ ∀ q ∈ p, s.accepts q = true → s.outranks q x = false
  | [], h => by cases h
  | r :: rs, h => by
    obtain ⟨rfl, hx, hbest⟩ | ⟨hrs, hloses⟩ := State.select_cons_eq_some h
    · have hself : s.outranks x x = false := by simp [State.outranks]
      refine ⟨List.mem_cons_self, hx, List.forall_mem_cons.2 ⟨fun _ => hself, fun q hq hacc => ?_⟩⟩
      cases hsel : s.select rs with
      | none => simp [State.accepts_eq_false_of_select hsel q hq] at hacc
      | some y =>
        obtain ⟨-, -, hy⟩ := State.select_eq_some hsel
        exact State.not_outranks_trans (hy q hq hacc) (hbest y hsel)
    · obtain ⟨hmem, hx, hrest⟩ := State.select_eq_some hrs
      exact ⟨List.mem_cons_of_mem r hmem, hx,
        List.forall_mem_cons.2 ⟨fun hr => State.outranks_asymm (hloses hr), hrest⟩⟩

/-- Settles O52: the choice by induction on the requests pending; that no other request outranks an NMI is the order's. -/
theorem interruptSelection : Obligations.InterruptSelection := by
  intro s p q r
  refine ⟨fun hnone hq => State.accepts_eq_false_of_select hnone q hq, fun hr => ?_, State.accepts_of_nmi,
    State.accepts_of_unmasked, State.accepts_of_masked⟩
  obtain ⟨hmem, hacc, hbest⟩ := State.select_eq_some hr
  refine ⟨hmem, hacc, fun hq hqacc => ?_⟩
  have hnot := hbest q hq hqacc
  exact ⟨hnot, (State.outranks_eq_false_iff.1 hnot).1⟩

/-- Settles O51: a request selected in program execution without an inhibit is taken, and the entry is as claimed. -/
theorem interruptEntry : Obligations.InterruptEntry := by
  intro s p cut rest r h hs hinh hin hr hsp
  exact ⟨_, step_of_takes_of_even hsp hin (.inl ⟨hs, hinh, hr⟩),
    enteredException_entered (s := { s with inputs := rest }) h _ _⟩

end Sys2Proof.Machine
end

section
/-! SUPPORT. The reset, hardware standby and the bus released: what each event does there, and what becomes of memory. -/

namespace Sys2Proof.Machine

/-! ## The state after reset (R391) -/

/-- Settles O59: nothing is listed in the memory, so that every byte of the vector is 0. -/
theorem resetStateIsAsSpecified : Obligations.ResetStateIsAsSpecified := by
  have hvector : State.reset.evenAddr (entryAt 0#24 State.reset) = State.reset.pc := by decide
  exact ⟨⟨by decide, by decide⟩, rfl, rfl, rfl, hvector.symm⟩

/-! ## The bytes an aborted instruction may have written (R390, D22) -/

theorem State.clobber_eq : ∀ (s : State) (l : List Nat),
    s.clobber l = { s with mem := (s.clobber l).mem, draws := (s.clobber l).draws }
  | _, [] => rfl
  | s, a :: l => by
    rw [State.clobber, State.clobber_eq (s.pokeFree _) l]
    simp

theorem State.peek_clobber {b : Addr} : ∀ (l : List Nat) {s : State}, s.mem.wf →
    b ∉ l.map (fun a => s.byteAddr (BitVec.ofNat 24 a)) → (s.clobber l).peek b = s.peek b
  | [], _, _, _ => rfl
  | a :: l, s, h, hb => by
    rw [List.map_cons, List.mem_cons, not_or] at hb
    obtain ⟨hne, hb⟩ := hb
    have hcfg := State.pokeFree_cfg s (s.byteAddr (BitVec.ofNat 24 a))
    rw [State.clobber, State.peek_clobber l (State.wf_pokeFree h _) (by simpa only [State.byteAddr_congr hcfg] using hb),
      State.peek_pokeFree h, if_neg fun hhit => hne hhit.1]

/-! ## Reset exception handling (R369, R391) -/

@[simp] theorem resetException_cfg (s : State) : (resetException s).cfg = s.cfg := by simp [resetException]
@[simp] theorem resetException_mem (s : State) : (resetException s).mem = s.mem := by simp [resetException]
@[simp] theorem resetException_inputs (s : State) : (resetException s).inputs = s.inputs := by simp [resetException]
@[simp] theorem resetException_i (s : State) : (resetException s).ccr.i = true := by simp [resetException]
@[simp] theorem resetException_pstate (s : State) : (resetException s).pstate = .programExecution := rfl
@[simp] theorem resetException_irqInhibit (s : State) : (resetException s).irqInhibit = true := rfl

theorem State.vecAddr_reset (s : State) : s.vecAddr Config.resetVector = 0#24 := by
  unfold State.vecAddr
  cases s.cfg.mode with
  | normal => rfl
  | advanced => rfl

/-- What a table entry holds depends on the memory, the parameters and the accesses made alone. -/
theorem entryAt_congr {s t : State} (hm : t.mem = s.mem) (hc : t.cfg = s.cfg) (ht : t.trace = s.trace) (p : Addr) :
    entryAt p t = entryAt p s := by
  have hsaw : (t.sawWord p).trace = (s.sawWord p).trace := by simp [ht, State.evenAddr_congr hc]
  simp only [entryAt, State.readLong, hc, State.readWord_congr hm hc ht,
    State.readWord_congr (s := s.sawWord p) (t := t.sawWord p) hm hc hsaw]

theorem resetException_pc (s : State) : (resetException s).pc = s.evenAddr (entryAt 0#24 s) := by
  have hpc : (resetException s).pc = s.evenAddr (s.loseRegisters.setI.readEntry 0#24) := by
    simp only [resetException, State.vecAddr_reset]
    exact State.evenAddr_congr (by simp) _
  rw [hpc, State.readEntry_eq_entryAt, entryAt_congr (s := s) (t := s.loseRegisters.setI) rfl rfl rfl]

/-- It reads the vector and makes no other access. -/
theorem keptMemory_resetException {s u : State} (hm : u.mem = s.mem) (hc : u.cfg = s.cfg) (ht : u.trace = s.trace) :
    keptMemory (s.sawEntry 0#24) (resetException u) := by
  have htrace : (resetException u).trace = (s.sawEntry 0#24).trace := by
    simp only [resetException, State.vecAddr_reset]
    exact State.sawEntry_trace_congr (s := s) (t := u.loseRegisters.setI) hc ht _
  exact ⟨htrace, State.peek_congr (by simp [hm]) (by simp [hc]) htrace⟩

/-! ## The three steps of a reset (R376, R378) -/

/-- The reset state that RES low leads to; `aborted` names the bytes the aborted instruction may have written. -/
def State.heldInReset (s : State) (aborted : List Nat) : State :=
  { s with
    ccr := { s.ccr with i := true }
    pstate := .resetState
    mem := (s.clobber aborted).mem
    draws := (s.clobber aborted).draws
    trace := .outside :: s.trace }

theorem resLow_eq_heldInReset {s : State} (hs : s.pstate ≠ .hardwareStandby) (aborted : List Nat) :
    resLow aborted s = s.heldInReset aborted := by
  unfold resLow
  split
  · next hstandby => exact absurd hstandby hs
  · rw [State.clobber_eq]
    rfl

section Steps
variable {s : State} {rest : List Event}

theorem step_of_resLow {aborted : List Nat} (hs : s.pstate ≠ .hardwareStandby)
    (hin : s.inputs = .resLow aborted :: rest) :
    step s = .next ({ s with inputs := rest }.heldInReset aborted) := by
  rw [step_of_event hin, onEvent, resLow_eq_heldInReset (s := { s with inputs := rest }) hs]

theorem step_of_resHigh (hs : s.pstate = .resetState) (hin : s.inputs = .resHigh :: rest) :
    step s = .next { s with pstate := .exceptionHandling, inputs := rest } := by
  simp [step_of_event hin, onEvent, resHigh, hs]

theorem step_of_exceptionHandling {p : List IrqRequest} {cut : Option Nat} (hs : s.pstate = .exceptionHandling)
    (hin : s.inputs = .requests p cut :: rest) : step s = .next (resetException { s with inputs := rest }) := by
  simp [step_of_event hin, onEvent, boundary, hs]

end Steps

/-- Settles O54: the three steps one after the other; RES low alone writes memory, and reset exception handling reads the
vector from what that leaves. -/
theorem resetSequence : Obligations.ResetSequence := by
  intro s aborted p cut rest h hs hin
  let u : State := { s with inputs := .resHigh :: .requests p cut :: rest }
  let t2 : State := { u.heldInReset aborted with pstate := .exceptionHandling, inputs := .requests p cut :: rest }
  let t3 := resetException { t2 with inputs := rest }
  have hpc : t3.pc = s.evenAddr (entryAt 0#24 t2) := by
    rw [resetException_pc, entryAt_congr (s := t2) rfl rfl rfl]
    exact State.evenAddr_congr rfl _
  have hcfg : t3.cfg = s.cfg := resetException_cfg _
  have hmem : t3.mem = (u.clobber aborted).mem := resetException_mem _
  refine ⟨u.heldInReset aborted, t2, t3, step_of_resLow hs hin, step_of_resHigh rfl rfl,
    step_of_exceptionHandling rfl rfl, rfl, rfl, rfl, rfl, rfl, rfl, rfl, resetException_pstate _, resetException_i _,
    resetException_irqInhibit _, resetException_inputs _, rfl, hcfg, hpc, keptMemory_resetException rfl rfl rfl,
    fun b hb hnot => ?_⟩
  have hclobber := State.clobber_cfg aborted u
  calc t3.peek b
      = (u.clobber aborted).peek b :=
        State.peek_of_steady (hcfg.trans hclobber.symm) (by rwa [State.steady_congr (s := s) hclobber]) (by rw [hmem])
    _ = s.peek b := State.peek_clobber aborted (s := u) h hnot

/-! ## What another master writes (R377, D21) -/

theorem State.busWrites_eq : ∀ (s : State) (l : List Host.Cell),
    s.busWrites l = { s with mem := (s.busWrites l).mem }
  | _, [] => rfl
  | s, (a, v) :: l => by
    rw [State.busWrites, State.busWrites_eq (s.poke _ v) l]
    simp

theorem State.busWrites_append : ∀ (s : State) (l m : List Host.Cell),
    s.busWrites (l ++ m) = (s.busWrites l).busWrites m
  | _, [], _ => rfl
  | s, (a, v) :: l, m => State.busWrites_append (s.poke (s.byteAddr (BitVec.ofNat 24 a)) v) l m

/-- Writes to other bytes, or to one that is no RAM, change nothing there. -/
theorem State.peek_busWrites_of_kept {b : Addr} : ∀ (l : List Host.Cell) {s : State}, s.mem.wf →
    (s.writable b = false ∨ ∀ w ∈ l, s.byteAddr (BitVec.ofNat 24 w.1) ≠ b) → (s.busWrites l).peek b = s.peek b
  | [], _, _, _ => rfl
  | (a, v) :: l, s, h, hkept => by
    have hcfg := State.poke_cfg s (s.byteAddr (BitVec.ofNat 24 a)) v
    have hmiss : ¬(b = s.byteAddr (BitVec.ofNat 24 a) ∧ s.writable (s.byteAddr (BitVec.ofNat 24 a)) = true) := by
      rw [eq_and_writable_iff]
      rintro ⟨rfl, hram⟩
      rcases hkept with hrom | hne
      · simp [hrom] at hram
      · exact hne (a, v) List.mem_cons_self rfl
    have hrest := hkept.imp_right fun hne w hw => hne w (List.mem_cons_of_mem _ hw)
    rw [State.busWrites, State.peek_busWrites_of_kept l (State.wf_poke h _ _)
        (by simpa only [State.byteAddr_congr hcfg, State.writable_congr hcfg] using hrest),
      State.peek_poke h, if_neg hmiss]

/-- Of the writes to one byte of RAM the last one stays. -/
theorem State.peek_busWrites_of_last {s : State} (h : s.mem.wf) (before after : List Host.Cell) {a : Nat} {v : Byte}
    (hlast : ∀ w ∈ after, s.byteAddr (BitVec.ofNat 24 w.1) ≠ s.byteAddr (BitVec.ofNat 24 a))
    (hram : s.writable (s.byteAddr (BitVec.ofNat 24 a)) = true) :
    (s.busWrites (before ++ (a, v) :: after)).peek (s.byteAddr (BitVec.ofNat 24 a)) = v := by
  have hwf := State.wf_busWrites before h
  have hcfg := State.busWrites_cfg before s
  have hpoked := (State.poke_cfg (s.busWrites before) (s.byteAddr (BitVec.ofNat 24 a)) v).trans hcfg
  rw [State.busWrites_append, State.busWrites, State.byteAddr_congr hcfg,
    State.peek_busWrites_of_kept after (State.wf_poke hwf _ _)
      (.inr (by simpa only [State.byteAddr_congr hpoked] using hlast)),
    State.peek_poke hwf, if_pos ⟨rfl, (State.writable_congr hcfg _).trans hram⟩]

/-- The state in which the program goes on when the bus comes back. -/
def State.backFromBus (s : State) (writes : List Host.Cell) : State :=
  { s with pstate := .programExecution, mem := (s.busWrites writes).mem, trace := .outside :: s.trace }

theorem busReturn_eq_backFromBus {s : State} (hs : s.pstate = .busReleased) (writes : List Host.Cell) :
    busReturn writes s = s.backFromBus writes := by
  simp only [busReturn, hs]
  rw [State.busWrites_eq]
  rfl

theorem State.peek_backFromBus {s : State} (writes : List Host.Cell) {b : Addr} (hb : s.steady b = true) :
    (s.backFromBus writes).peek b = (s.busWrites writes).peek b := by
  have hcfg := State.busWrites_cfg writes s
  exact State.peek_of_steady (t := s.backFromBus writes) hcfg.symm (by rwa [State.steady_congr hcfg]) rfl

/-! ## The steps into standstill and out of it (R376, R377, R378, R382) -/

section Steps
variable {s : State} {rest : List Event}

theorem step_of_stopped {p : List IrqRequest} {cut : Option Nat}
    (hs : s.pstate = .resetState ∨ s.pstate = .hardwareStandby ∨ s.pstate = .busReleased)
    (hin : s.inputs = .requests p cut :: rest) : step s = .next { s with inputs := rest } := by
  rw [step_of_event hin, onEvent]
  rcases hs with hs | hs | hs
  · simp [boundary, hs]
  · simp [boundary, hs]
  · simp [boundary, hs]

theorem step_of_stbyLow (hin : s.inputs = .stbyLow :: rest) :
    step s = .next { s.loseRegisters.noted .outside with pstate := .hardwareStandby, inputs := rest } :=
  step_of_event hin

theorem step_of_stbyHigh (hs : s.pstate = .hardwareStandby) (hin : s.inputs = .stbyHigh :: rest) :
    step s = .next { s.setI with pstate := .resetState, inputs := rest } := by
  simp only [step_of_event hin, onEvent, stbyHigh, hs]
  rfl

theorem step_of_busRequest (hs : s.pstate = .programExecution) (hin : s.inputs = .busRequest :: rest) :
    step s = .next { s with pstate := .busReleased, inputs := rest } := by
  simp [step_of_event hin, onEvent, busRequest, hs]

theorem step_of_busReturn {writes : List Host.Cell} (hs : s.pstate = .busReleased)
    (hin : s.inputs = .busReturn writes :: rest) :
    step s = .next ({ s with inputs := rest }.backFromBus writes) := by
  rw [step_of_event hin, onEvent, busReturn_eq_backFromBus (s := { s with inputs := rest }) hs]

end Steps

/-- Settles O55: each event by its step; the other master's writes reach memory alone, the last one to a byte stays. -/
theorem nothingRunsWhileStopped : Obligations.NothingRunsWhileStopped := by
  refine ⟨fun s p cut rest hs hin => step_of_stopped hs hin, fun s rest hin => ?_, fun s rest hs hin => ?_,
    fun s rest hs hin => step_of_busRequest hs hin, fun s writes rest h hs hin => ?_⟩
  · exact ⟨_, step_of_stbyLow hin, rfl, ⟨rfl, State.peek_congr rfl rfl rfl⟩, rfl, rfl⟩
  · exact ⟨_, step_of_stbyHigh hs hin, rfl, rfl, ⟨rfl, State.peek_congr rfl rfl rfl⟩, rfl, rfl⟩
  · let u : State := { s with inputs := rest }
    have hrest : keptRest 0 { s with pstate := .programExecution, inputs := rest } (u.backFromBus writes) :=
      ⟨rfl, rfl, rfl, rfl, rfl, rfl⟩
    refine ⟨u.backFromBus writes, step_of_busReturn hs hin, fun _ => rfl, rfl, rfl, rfl, hrest,
      fun b hb hkept => ?_, fun a v before after hwrites hlast hram => ?_⟩
    · exact (State.peek_backFromBus (s := u) writes hb).trans (State.peek_busWrites_of_kept writes (s := u) h hkept)
    · rw [State.peek_backFromBus (s := u) writes (State.steady_of_writable hram), hwrites]
      exact State.peek_busWrites_of_last (s := u) h before after hlast hram

end Sys2Proof.Machine
end
